-- ==== Sys2Proof/Word.lean ====
section
/-! DEFINITION. The two bit-vector types of the block: a byte (00_scope R11) and a 32-bit command word (30_encoding R69). -/

namespace Sys2Proof

/-- A byte of the wire, of the frame buffer or of a byte list (00_scope R11). -/
abbrev Byte := BitVec 8

/-- A command word (30_encoding R69). -/
abbrev Word := BitVec 32

end Sys2Proof
end

