-- ==== Sys2Proof/Config.lean ====
section
/-! DEFINITION. What an implementation of the block fixes (00_scope R7), the wire constants (30_encoding R57), and the
constants of which the model knows nothing (no body: no proof can see their value). -/

namespace Sys2Proof

/-- `ESCAPE_POLICY` (00_scope R7): what an escaped byte that is neither ESC_END nor ESC_ESC means. -/
inductive EscapePolicy where
  | lenient
  | strict
deriving DecidableEq, Repr

/-- `TICK_GATING` (00_scope R7): whether TICK counts while no frame is in progress. -/
inductive TickGating where
  | ungated
  | gated
deriving DecidableEq, Repr

/-- `CRC16` (00_scope R7): the default CRC-16/XMODEM of 43_encoder R118, or a function of which only R117 is known. -/
inductive CrcFunction where
  | xmodem
  | parameter
deriving DecidableEq, Repr

/-- The implementation parameters of 00_scope R7. They are fixed for the run (70_reset R140): a state carries them in one
field, which no step writes. -/
structure Params where
  /-- `CAP`: frame buffer capacity in bytes. -/
  cap : Nat
  /-- `LEN_W`: width of `receivedCount` and `lastFrameLength`. -/
  lenW : Nat
  /-- `TIMEOUT_W`: width of `timeoutCount` and `timeoutLimit`. -/
  timeoutW : Nat
  /-- `ESCAPE_POLICY`. -/
  escapePolicy : EscapePolicy
  /-- `TICK_GATING`. -/
  tickGating : TickGating
  /-- `CRC16`. -/
  crc : CrcFunction
  /-- `MAX_PAYLOAD`: none where it is unbounded. -/
  maxPayload : Option Nat
deriving DecidableEq, Repr

/-- The values 00_scope R7 gives in its last column (log entry 3; DESIGN CHOICE that `State.reset` carries them). -/
def Params.default : Params where
  cap := 16
  lenW := 16
  timeoutW := 16
  escapePolicy := .lenient
  tickGating := .ungated
  crc := .xmodem
  maxPayload := none

/-- The constraints on the parameters: 00_scope R7, the bound that 30_encoding R69 puts on `TIMEOUT_W`, and that a count
fits a 32-bit register (44_register_read R119; DEDUCED, log entry 12). -/
def Params.valid (p : Params) : Bool :=
  decide (p.cap ≤ 2 ^ p.lenW - 1) && decide (p.lenW ≤ 32) && decide (1 ≤ p.timeoutW) && decide (p.timeoutW ≤ 29)

/-- END, the frame terminator (30_encoding R57). -/
def wireEnd : Byte := 0xC0#8

/-- ESC, the escape marker (30_encoding R57). -/
def wireEsc : Byte := 0xDB#8

/-- ESC_END, the escaped form of END (30_encoding R57). -/
def wireEscEnd : Byte := 0xDC#8

/-- ESC_ESC, the escaped form of ESC (30_encoding R57). -/
def wireEscEsc : Byte := 0xDD#8

/-- What a draw gives for a byte of `Buf`, at an index, that has not been written since hardware reset (70_reset R138:
unconstrained, a fresh draw for each read). The first argument is the number of the decoder instance, so that nothing relates
the bytes of two instances (20_memory R50; log entry 20). A free value: log entry 5. -/
opaque Config.freeByte (number draw index : Nat) : Byte

/-- The function `CRC16` as a parameter (43_encoder R117), before `Machine.residueLawful` gives it the residue law:
nothing else is known of it. Log entry 4. -/
opaque Config.crcParameter : List Byte → BitVec 16

/-- `REG_BASE`, the platform's base address of the register view (20_memory R47, OPEN). No rule reads it. Log entry 15. -/
opaque Config.regBase : Nat

end Sys2Proof
end

