-- ==== Sys2Proof/Syntax.lean ====
section
/-! DEFINITION. The instructions: one constructor per row of spec/opcode_table.json, and the form in which an instruction
arrives in each of the three encoding spaces (30_encoding, opening paragraph). -/

namespace Sys2Proof

/-- The rows of spec/opcode_table.json: six commands and two reserved codes (30_encoding R68, R71), six received-byte
classes (R64, R65) and three escape-codec input classes (40_escape_codec R74). -/
inductive Instr where
  /-- INIT `L` (41_decoder R81). -/
  | init (limit : BitVec 29)
  /-- DECODE `chunk` (41_decoder R82). -/
  | decode (chunk : List Byte)
  /-- TICK (42_timeout R103). -/
  | tick
  /-- ENCODE `P` (43_encoder R111). -/
  | encode (payload : List Byte)
  /-- ESCAPE `b` (40_escape_codec R75). -/
  | escape (b : Byte)
  /-- READ `n` (44_register_read R119). -/
  | read (n : BitVec 29)
  /-- `OP` = 6, reserved (30_encoding R71); `rest` is the word's other bits. -/
  | reserved6 (rest : BitVec 29)
  /-- `OP` = 7, reserved (30_encoding R71); `rest` is the word's other bits. -/
  | reserved7 (rest : BitVec 29)
  /-- A received END (41_decoder R85). -/
  | rxEnd
  /-- A received ESC (41_decoder R90). -/
  | rxEsc
  /-- A received byte other than END and ESC, with no escape pending (41_decoder R91, R96). -/
  | rxData (d : Byte)
  /-- A received ESC_END with an escape pending (41_decoder R93). -/
  | rxDataEscEnd
  /-- A received ESC_ESC with an escape pending (41_decoder R93). -/
  | rxDataEscEsc
  /-- Any other received byte but END and ESC with an escape pending: a malformed escape (41_decoder R93). -/
  | rxDataEscBad (d : Byte)
  /-- The escape codec's input END (40_escape_codec R74). -/
  | escInEnd
  /-- The escape codec's input ESC (40_escape_codec R74). -/
  | escInEsc
  /-- Any other input of the escape codec (40_escape_codec R74). -/
  | escInPass (b : Byte)
deriving DecidableEq, Repr

/-- An instruction as it arrives: in the command space, the byte-step space, or at the escape codec's input. -/
inductive Encoded where
  /-- A command word and the byte list that follows it (30_encoding R69). -/
  | command (word : Word) (bytes : List Byte)
  /-- A byte that a DECODE delivers (30_encoding R64). -/
  | rxByte (b : Byte)
  /-- An input byte of the escape codec (40_escape_codec R74). -/
  | codecByte (b : Byte)
deriving DecidableEq, Repr

end Sys2Proof
end

