-- ==== Sys2Proof/WellFormed.lean ====
section
/-! DEFINITION. Which instructions are well formed: the operand ranges of 30_encoding R68 and R69 and the "excludes" of
spec/opcode_table.json. -/

namespace Sys2Proof

/-- The payload lengths that ENCODE accepts (43_encoder R112). -/
def Params.payloadFits (p : Params) (payload : List Byte) : Bool :=
  match p.maxPayload with
  | none => true
  | some most => decide (payload.length ≤ most)

/-- An instruction whose operands are in the ranges the spec gives them, under parameters `p`. -/
def Instr.wellFormed (p : Params) : Instr → Bool
  | .init limit => decide (limit.toNat < 2 ^ p.timeoutW)
  | .decode _ => true
  | .tick => true
  | .encode payload => p.payloadFits payload
  | .escape _ => true
  | .read _ => true
  | .reserved6 _ => true
  | .reserved7 _ => true
  | .rxEnd => true
  | .rxEsc => true
  | .rxData d => d != wireEnd && d != wireEsc
  | .rxDataEscEnd => true
  | .rxDataEscEsc => true
  | .rxDataEscBad d => d != wireEnd && d != wireEsc && d != wireEscEnd && d != wireEscEsc
  | .escInEnd => true
  | .escInEsc => true
  | .escInPass b => b != wireEnd && b != wireEsc

end Sys2Proof
end

