-- ==== Sys2Proof/Decode.lean ====
section
/-! DEFINITION. The decoder of the three encoding spaces, total and rejecting by name; after it the encoder, written from
the same tables (30_encoding R57, R64, R65, R69, R70, R71; 40_escape_codec R74). -/

namespace Sys2Proof

/-- Why a command is rejected before it names an instruction. -/
inductive DecodeError where
  /-- A bit of the word that the command does not use is not 0 (30_encoding R69, R71). -/
  | unusedBits
  /-- A byte list stands behind a word of a command that takes none (30_encoding R69; log entry 11). -/
  | strayByteList
deriving DecidableEq, Repr

/-- `OP`, bits [2:0] of the word (30_encoding R69). -/
def opField (w : Word) : BitVec 3 := w.extractLsb' 0 3

/-- Bits [31:3] of the word: where `L`, `b` and `n` stand (30_encoding R69, R70). -/
def operandField (w : Word) : BitVec 29 := w.extractLsb' 3 29

/-- The instruction `i`, if no byte list stands behind its word and the unused bits are 0. -/
def plainCommand (unusedZero : Bool) (bytes : List Byte) (i : Instr) : Except DecodeError Instr :=
  if unusedZero = false then .error .unusedBits
  else if bytes ≠ [] then .error .strayByteList
  else .ok i

/-- The command that a word and its byte list name (30_encoding R68 to R71). -/
def decodeCommand (p : Params) (w : Word) (bytes : List Byte) : Except DecodeError Instr :=
  match (opField w).toNat with
  | 0 => plainCommand (decide ((operandField w).toNat < 2 ^ p.timeoutW)) bytes (.init (operandField w))
  | 1 => if operandField w = 0#29 then .ok (.decode bytes) else .error .unusedBits
  | 2 => plainCommand (decide (operandField w = 0#29)) bytes .tick
  | 3 => if operandField w = 0#29 then .ok (.encode bytes) else .error .unusedBits
  | 4 => plainCommand (decide ((operandField w).toNat < 2 ^ 8)) bytes (.escape ((operandField w).setWidth 8))
  | 5 => plainCommand true bytes (.read (operandField w))
  | 6 => plainCommand true bytes (.reserved6 (operandField w))
  | _ => plainCommand true bytes (.reserved7 (operandField w))

/-- The byte step that a received byte selects (30_encoding R64), with the sub-class that `pendingEscape` gives an
RX_DATA byte (R65, and the conditions of spec/opcode_table.json). -/
def decodeByte (pendingEscape : Bool) (b : Byte) : Instr :=
  if b = wireEnd then .rxEnd
  else if b = wireEsc then .rxEsc
  else if pendingEscape = false then .rxData b
  else if b = wireEscEnd then .rxDataEscEnd
  else if b = wireEscEsc then .rxDataEscEsc
  else .rxDataEscBad b

/-- The class of an input byte of the escape codec (40_escape_codec R74). -/
def decodeCodec (b : Byte) : Instr :=
  if b = wireEnd then .escInEnd
  else if b = wireEsc then .escInEsc
  else .escInPass b

/-- The decoder over all three spaces; `pendingEscape` is read in the byte-step space only. -/
def decode (p : Params) (pendingEscape : Bool) : Encoded → Except DecodeError Instr
  | .command w bytes => decodeCommand p w bytes
  | .rxByte b => .ok (decodeByte pendingEscape b)
  | .codecByte b => .ok (decodeCodec b)

/-- The value of `pendingEscape` under which a received byte is read when nothing but the byte is given: the row of
spec/opcode_table.json whose match is exactly this byte needs a pending escape for ESC_END and ESC_ESC (log entry 9). -/
def rowContext (b : Byte) : Bool := b == wireEscEnd || b == wireEscEsc

/-- The instruction read from the bits of a row of spec/opcode_table.json: 32 bits are a command word with an empty byte
list, under the default parameters; 8 bits are a received byte (log entry 9). -/
def decodeTableWord (nbits w : Nat) : Option Instr :=
  if nbits = 32 then
    match decodeCommand Params.default (BitVec.ofNat 32 w) [] with
    | .ok i => some i
    | .error _ => none
  else if nbits = 8 then
    some (decodeByte (rowContext (BitVec.ofNat 8 w)) (BitVec.ofNat 8 w))
  else none

/-- The word with operand bits [31:3] and `OP` bits [2:0] (30_encoding R69). -/
def commandWord (operand : BitVec 29) (op : BitVec 3) : Word := operand ++ op

/-- The encoder: how each instruction arrives (30_encoding R57, R64, R65, R69; 40_escape_codec R74). -/
def encode : Instr → Encoded
  | .init limit => .command (commandWord limit 0#3) []
  | .decode chunk => .command (commandWord 0#29 1#3) chunk
  | .tick => .command (commandWord 0#29 2#3) []
  | .encode payload => .command (commandWord 0#29 3#3) payload
  | .escape b => .command (commandWord (b.setWidth 29) 4#3) []
  | .read n => .command (commandWord n 5#3) []
  | .reserved6 rest => .command (commandWord rest 6#3) []
  | .reserved7 rest => .command (commandWord rest 7#3) []
  | .rxEnd => .rxByte wireEnd
  | .rxEsc => .rxByte wireEsc
  | .rxData d => .rxByte d
  | .rxDataEscEnd => .rxByte wireEscEnd
  | .rxDataEscEsc => .rxByte wireEscEsc
  | .rxDataEscBad d => .rxByte d
  | .escInEnd => .codecByte wireEnd
  | .escInEsc => .codecByte wireEsc
  | .escInPass b => .codecByte b

/-- Whether the instruction is the one a received byte selects under this `pendingEscape` (spec/opcode_table.json,
"condition"); only the RX_DATA rows depend on it. -/
def contextFits (pendingEscape : Bool) : Instr → Bool
  | .init _ => true
  | .decode _ => true
  | .tick => true
  | .encode _ => true
  | .escape _ => true
  | .read _ => true
  | .reserved6 _ => true
  | .reserved7 _ => true
  | .rxEnd => true
  | .rxEsc => true
  | .rxData _ => !pendingEscape
  | .rxDataEscEnd => pendingEscape
  | .rxDataEscEsc => pendingEscape
  | .rxDataEscBad _ => pendingEscape
  | .escInEnd => true
  | .escInEsc => true
  | .escInPass _ => true

end Sys2Proof
end

