-- ==== Sys2Proof/Machine/State.lean ====
section
/-! DEFINITION. The state of the block, as plain data, and the reasons a step can stop. -/

namespace Sys2Proof.Machine

/-- The statuses of 30_encoding R67; `Status.code` gives their 2-bit codes. -/
inductive Status where
  | decoding
  | success
  | frameError
  | bufferOverrun
deriving DecidableEq, Repr

/-- The usage errors of 60_exceptions R124. -/
inductive UsageError where
  /-- Cause 1: DECODE while `initialized` is false. -/
  | decodeBeforeInit
  /-- Cause 2: TICK while `initialized` is false. -/
  | tickBeforeInit
  /-- Cause 3: READ of a register number outside the map. -/
  | badRegister
deriving DecidableEq, Repr

/-- The output events of a decoder instance (60_exceptions R129). -/
inductive Event where
  /-- `FrameDelivered(n, F)` (41_decoder R87). -/
  | frameDelivered (length : Nat) (bytes : List Byte)
  /-- `TimedOut` (42_timeout R103, R104). -/
  | timedOut
  /-- `Fault(cause)` (60_exceptions R125). -/
  | fault (cause : UsageError)
deriving DecidableEq, Repr

/-- What a command returns (70_reset R152). -/
inductive Result where
  /-- INIT returned. -/
  | initDone
  /-- DECODE returned: its chunk is exhausted. -/
  | decodeDone
  /-- ENCODE's `ok` (43_encoder R113). -/
  | encoded (ok : Bool)
  /-- TICK's `timedOut` (42_timeout R104). -/
  | ticked (timedOut : Bool)
  /-- The escape codec's bytes and their count (40_escape_codec R74, R75). -/
  | escaped (bytes : List Byte) (count : Nat)
  /-- READ's value (44_register_read R119). -/
  | value (v : BitVec 32)
deriving DecidableEq, Repr

/-- What reaches the block from outside, one entry at a time. -/
inductive Input where
  /-- A command of the host or of the tick source (30_encoding R68, R69). -/
  | command (word : Word) (bytes : List Byte)
  /-- A byte presented to the escape codec (log entry 8). -/
  | codecByte (b : Byte)
  /-- The reset input (70_reset R137). -/
  | hardwareReset
deriving DecidableEq, Repr

/-- The whole state: the thirteen fields of 10_state R17, the position in the DECODE in progress (R34), the outputs that
70_reset R152 observes, the inputs not yet taken, the parameters, the count of free values drawn, and the
instance's number. -/
structure State where
  /-- The parameters (00_scope R7). No step writes them. -/
  params : Params
  /-- `Buf` (R18): the bytes written since hardware reset, by index. -/
  buf : List Host.Cell
  /-- `receivedCount` (R19). -/
  receivedCount : Nat
  /-- `lastFrameLength` (R20). -/
  lastFrameLength : Nat
  /-- `isReceiving` (R21). -/
  isReceiving : Bool
  /-- `pendingEscape` (R22). -/
  pendingEscape : Bool
  /-- `timeoutCount` (R23). -/
  timeoutCount : Nat
  /-- `timeoutLimit` (R24). -/
  timeoutLimit : Nat
  /-- `currentStatus` (R25). -/
  currentStatus : Status
  /-- `lastStatus` (R26). -/
  lastStatus : Status
  /-- `initialized` (R27). -/
  initialized : Bool
  /-- `faulted` (R28). -/
  faulted : Bool
  /-- `discarding` (R29). -/
  discarding : Bool
  /-- `badEscape` (R30). -/
  badEscape : Bool
  /-- The bytes of the current chunk that have not had their byte step (R34; log entry 1). -/
  rx : List Byte
  /-- The index of the next byte in the current chunk (R34; log entry 1). -/
  bytePos : Nat
  /-- The commands, codec bytes and resets not yet taken, in the order they reach the block (log entry 2). -/
  inbox : List Input
  /-- The instance's event trace, oldest first (60_exceptions R129). -/
  events : List Event
  /-- The encoder's output groups, oldest first (43_encoder R114). -/
  sink : List (List Byte)
  /-- The results of the commands, oldest first (70_reset R152). -/
  results : List Result
  /-- How many free values have been drawn: the model's own (log entry 6). -/
  draws : Nat
  /-- Which decoder instance this is, among several: the model's own, read by the free values alone (log entry 20). -/
  number : Nat
deriving DecidableEq, Repr

/-- The state right after hardware reset (10_state R38, 70_reset R137), with the default parameters (log entry 3). -/
def State.reset : State where
  params := Params.default
  buf := []
  receivedCount := 0
  lastFrameLength := 0
  isReceiving := false
  pendingEscape := false
  timeoutCount := 0
  timeoutLimit := 0
  currentStatus := .decoding
  lastStatus := .decoding
  initialized := false
  faulted := false
  discarding := false
  badEscape := false
  rx := []
  bytePos := 0
  inbox := []
  events := []
  sink := []
  results := []
  draws := 0
  number := 0

/-- Why a step stops with a fault. (A usage error of the block is no such stop: 60_exceptions R125 gives it an effect.) -/
inductive Fault where
  /-- Raised by the END byte step when the frame it would check reaches past `CAP`: the index does not exist (20_memory
  R39, R45). No reachable state raises it (41_decoder R98). Safe. -/
  | bufferBounds
deriving DecidableEq, Repr

/-- Why a step is refused. -/
inductive Refusal where
  /-- Raised by an arm of `exec` for an instruction that has no meaning yet. Safe. No arm raises it now. -/
  | notModelled (mnemonic : String)
  /-- Raised by RESERVED_6: 30_encoding R71 refuses `OP` 6. Safe: the spec gives the word no meaning. -/
  | reservedOp6
  /-- Raised by RESERVED_7: 30_encoding R71 refuses `OP` 7. Safe: the spec gives the word no meaning. -/
  | reservedOp7
  /-- Raised by the fetch of a word with a nonzero unused bit (30_encoding R71). Safe: the spec gives it no meaning. -/
  | unusedBitsSet
  /-- Raised by the fetch of a word with a byte list its command does not take (log entry 11). Safe. -/
  | strayByteList
  /-- Raised by ENCODE of a payload longer than `MAX_PAYLOAD` (43_encoder R112). Safe: the spec gives it no meaning. -/
  | payloadTooLong
deriving DecidableEq, Repr

end Sys2Proof.Machine
end

