-- ==== Sys2Proof/Machine/Crc.lean ====
section
/-! DEFINITION. The CRC collaborator: the default CRC-16/XMODEM (43_encoder R118) and the parameter with the residue law
(R117). -/

namespace Sys2Proof.Machine

/-- One of the eight shifts of 43_encoder R118. -/
def crcShift (c : BitVec 16) : BitVec 16 :=
  if c.getLsbD 15 then (c <<< 1) ^^^ 0x1021#16 else c <<< 1

/-- Eight shifts (43_encoder R118, "repeat 8 times"). -/
def crcShift8 (c : BitVec 16) : BitVec 16 :=
  crcShift (crcShift (crcShift (crcShift (crcShift (crcShift (crcShift (crcShift c)))))))

/-- The CRC register after one more byte (43_encoder R118). -/
def crcByte (c : BitVec 16) (b : Byte) : BitVec 16 :=
  crcShift8 (c ^^^ (b.setWidth 16 <<< 8))

/-- CRC-16/XMODEM of a byte list (43_encoder R118). -/
def crc16Xmodem (xs : List Byte) : BitVec 16 := xs.foldl crcByte 0x0000#16

/-- The high byte of a CRC, `c[15:8]` (20_memory R41). -/
def crcHigh (c : BitVec 16) : Byte := c.extractLsb' 8 8

/-- The low byte of a CRC, `c[7:0]` (20_memory R41). -/
def crcLow (c : BitVec 16) : Byte := c.extractLsb' 0 8

/-- `residueLawful` on the reversed list: 0 where the last two bytes are the CRC of what stands before them, `g` elsewhere. -/
def residueLawfulRev (g : List Byte → BitVec 16) : List Byte → BitVec 16
  | lo :: hi :: rest =>
    if hi = crcHigh (residueLawfulRev g rest) ∧ lo = crcLow (residueLawfulRev g rest) then 0#16
    else g (lo :: hi :: rest).reverse
  | xs => g xs.reverse

/-- The function `g`, changed only where the residue law of 43_encoder R117 item 2 would fail of it: it obeys the law for
every `g`, and it is `g` itself where `g` obeys the law. So every function that R117 allows is one of these (log entry 4). -/
def residueLawful (g : List Byte → BitVec 16) (xs : List Byte) : BitVec 16 := residueLawfulRev g xs.reverse

/-- `CRC16` (00_scope R7). -/
def crc16 (f : CrcFunction) (xs : List Byte) : BitVec 16 :=
  match f with
  | .xmodem => crc16Xmodem xs
  | .parameter => residueLawful Config.crcParameter xs

end Sys2Proof.Machine
end

