-- ==== Sys2Proof/Machine/Flags.lean ====
section
/-! DEFINITION. The block's status flags (10_state R35): their codes, their packing in STATUS, the control state they make
up, and the verdict on a completed frame. -/

namespace Sys2Proof.Machine

/-- The 2-bit code of a status (30_encoding R67). -/
def Status.code : Status → BitVec 2
  | .decoding => 0#2
  | .success => 1#2
  | .frameError => 2#2
  | .bufferOverrun => 3#2

/-- The cause code of a usage error (60_exceptions R124). -/
def UsageError.code : UsageError → Nat
  | .decodeBeforeInit => 1
  | .tickBeforeInit => 2
  | .badRegister => 3

/-- STATUS, ten bits (44_register_read R119; 10_state R36), `currentStatus` in bits [1:0]. -/
def statusBits (s : State) : BitVec 10 :=
  BitVec.ofBool s.faulted ++ BitVec.ofBool s.initialized ++ BitVec.ofBool s.badEscape ++ BitVec.ofBool s.discarding
    ++ BitVec.ofBool s.pendingEscape ++ BitVec.ofBool s.isReceiving ++ s.lastStatus.code ++ s.currentStatus.code

/-- The status that FRAME_CHECK gives a frame (41_decoder R86): Success when no malformed escape was seen and the residue
is 0. -/
def frameVerdict (f : CrcFunction) (bad : Bool) (frame : List Byte) : Status :=
  if bad = false ∧ crc16 f frame = 0#16 then .success else .frameError

/-- The control states of 10_state R31. -/
inductive ControlState where
  | faulted
  | uninitialized
  | idle
  | receiving
  | discarding
deriving DecidableEq, Repr

/-- The control state that the flags make up (10_state R31). -/
def controlState (s : State) : ControlState :=
  if s.faulted then .faulted
  else if s.initialized = false then .uninitialized
  else if s.isReceiving = false then .idle
  else if s.discarding then .discarding
  else .receiving

end Sys2Proof.Machine
end

