-- ==== Sys2Proof/Machine/Memory.lean ====
section
/-! DEFINITION. The frame buffer as a list of (index, byte) pairs in one canonical form: indices strictly rising. An
index that is not listed has no value: nothing has written it since hardware reset (70_reset R138). -/

namespace Sys2Proof.Machine

/-- The byte listed at an index (00_scope R12, `MemRead`), or none where nothing has written it. -/
def Memory.read : List Host.Cell → Nat → Option Byte
  | [], _ => none
  | (k, v) :: rest, a => if k = a then some v else Memory.read rest a

/-- The buffer with byte `v` at index `a` (00_scope R12, `MemWrite`). -/
def Memory.write : List Host.Cell → Nat → Byte → List Host.Cell
  | [], a, v => [(a, v)]
  | (k, w) :: rest, a, v =>
    if a < k then (a, v) :: (k, w) :: rest
    else if a = k then (a, v) :: rest
    else (k, w) :: Memory.write rest a v

/-- The canonical form: indices strictly rising. (No listed value equals what an unlisted index reads as, since an unlisted
index has no value.) -/
def Memory.wf : List Host.Cell → Bool
  | [] => true
  | (k, _) :: rest => rest.all (fun c => decide (k < c.1)) && Memory.wf rest

end Sys2Proof.Machine
end

