-- ==== Sys2Proof/Machine/Ops.lean ====
section
/-! DEFINITION. The shared operations over the state: the buffer, the traces, the field reset, taking a usage error, and
the hardware reset. -/

namespace Sys2Proof.Machine

/-- `emit E(args)` (00_scope R12). -/
def State.emit (s : State) (e : Event) : State := { s with events := s.events ++ [e] }

/-- The result of the command that ends here (70_reset R152). -/
def State.giveResult (s : State) (r : Result) : State := { s with results := s.results ++ [r] }

/-- `SinkOut(g)` for each group in turn (43_encoder R111). -/
def State.sendGroups (s : State) (groups : List (List Byte)) : State := { s with sink := s.sink ++ groups }

/-- TAKING A USAGE ERROR (60_exceptions R125): `faulted` is set and `Fault(cause)` emitted; no other field changes. It is the
block's only exception; there is no return from it but the hardware reset (R127). -/
def State.raise (s : State) (u : UsageError) : State := { s with faulted := true }.emit (.fault u)

/-- A command or byte step of a decoder instance: a faulted instance takes no step (60_exceptions R125, R130 item 1). -/
def ifLive (s : State) (act : Host.Outcome State Fault Refusal) : Host.Outcome State Fault Refusal :=
  if s.faulted then .next s else act

/-- A command that needs INIT first: otherwise the usage error, before any state changes (60_exceptions R124, R130 item 2). -/
def ifInitialized (s : State) (u : UsageError) (act : Host.Outcome State Fault Refusal) :
    Host.Outcome State Fault Refusal :=
  if s.initialized then act else .next (s.raise u)

/-- RESET_FIELDS (41_decoder R80). -/
def State.resetFields (s : State) : State :=
  { s with
    receivedCount := 0
    lastFrameLength := 0
    isReceiving := false
    pendingEscape := false
    timeoutCount := 0
    currentStatus := .decoding
    lastStatus := .decoding
    discarding := false
    badEscape := false }

/-- The byte of `Buf` at an index: the one written there, or the free value of the current draw where nothing has been
written since hardware reset (70_reset R138). How the unwritten bytes of two instances relate the spec leaves open; the model
relates them in no way, since the free value is one of the instance's number too (log entry 20). -/
def State.bufByte (s : State) (i : Nat) : Byte :=
  (Memory.read s.buf i).getD (Config.freeByte s.number s.draws i)

/-- The state after a read of `Buf` at an index: a read of an unwritten byte uses up a draw (70_reset R138, "a fresh draw
for each read"); a read of a written byte changes nothing (20_memory R46). -/
def State.afterBufRead (s : State) (i : Nat) : State :=
  if (Memory.read s.buf i).isSome then s else { s with draws := s.draws + 1 }

/-- `Buf[0..n)` (00_scope R12), or none where the range reaches past `CAP` (20_memory R45). -/
def State.frame (s : State) (n : Nat) : Option (List Byte) :=
  if n ≤ s.params.cap then some ((List.range n).map s.bufByte) else none

/-- Hardware reset of one instance (70_reset R137): every field at the "after hardware reset" column of 10_state R38. The
parameters stay (R140), and so do the commands that have not been taken; a new run begins, with empty traces (log entry 13).
The reset input reaches every instance of a block: `Block.hardwareReset`. -/
def State.hardwareReset (s : State) : State :=
  { State.reset with params := s.params, inbox := s.inbox, draws := s.draws, number := s.number }

end Sys2Proof.Machine
end

