-- ==== Sys2Proof/Machine/Operands.lean ====
section
/-! DEFINITION. The operand forms (30_encoding R70): the escape sequence of a byte operand, the wire groups of a payload,
and the register a READ number names. -/

namespace Sys2Proof.Machine

/-- `ESCAPE(b)` (40_escape_codec R74). -/
def escapeByte (b : Byte) : List Byte :=
  if b = wireEnd then [wireEsc, wireEscEnd]
  else if b = wireEsc then [wireEsc, wireEscEsc]
  else [b]

/-- `ESCAPE*(xs)` (40_escape_codec R76). -/
def escapeList (xs : List Byte) : List Byte := xs.flatMap escapeByte

/-- The two trailer bytes, high byte first (30_encoding R70, 20_memory R41). -/
def trailer (c : BitVec 16) : List Byte := [crcHigh c, crcLow c]

/-- The output groups of ENCODE `P`, in order (43_encoder R111, R114). -/
def wireGroups (f : CrcFunction) (payload : List Byte) : List (List Byte) :=
  (payload ++ trailer (crc16 f payload)).map escapeByte ++ [[wireEnd]]

/-- The registers of 10_state R36. -/
inductive Register where
  | status
  | rxCount
  | lastLen
  | tCount
  | tLimit
  | buf (i : Nat)
deriving DecidableEq, Repr

/-- The register with a number (10_state R36), or none where the map has none. -/
def registerOf (cap n : Nat) : Option Register :=
  match n with
  | 0 => some .status
  | 1 => some .rxCount
  | 2 => some .lastLen
  | 3 => some .tCount
  | 4 => some .tLimit
  | n => if 0x100 ≤ n ∧ n < 0x100 + cap then some (.buf (n - 0x100)) else none

/-- The register view: what a register holds, zero-extended to 32 bits (44_register_read R119). A pure function of the
state: it is also what a host sees at a `FrameDelivered` event (10_state R37). The spec leaves open what that view shows of a
byte of `Buf` that was never written: the model's choice is the current draw, with no draw used up, so that it is the value of
the next READ of that byte if no other draw comes between (log entry 18). -/
def registerValue (s : State) : Register → BitVec 32
  | .status => (statusBits s).setWidth 32
  | .rxCount => BitVec.ofNat 32 s.receivedCount
  | .lastLen => BitVec.ofNat 32 s.lastFrameLength
  | .tCount => BitVec.ofNat 32 s.timeoutCount
  | .tLimit => BitVec.ofNat 32 s.timeoutLimit
  | .buf i => (s.bufByte i).setWidth 32

/-- The state after a register has been read: nothing changes (10_state R37), but a byte of `Buf` that was never written
uses up a draw. -/
def afterRegisterRead (s : State) : Register → State
  | .buf i => s.afterBufRead i
  | _ => s

end Sys2Proof.Machine
end

