-- ==== Sys2Proof/Machine/Decoder.lean ====
section
/-! DEFINITION. The decoder: INIT, DECODE and the six byte steps (41_decoder.md). -/

namespace Sys2Proof.Machine

/-- INIT `L` (41_decoder R81). -/
def execInit (limit : BitVec 29) (s : State) : Host.Outcome State Fault Refusal :=
  ifLive s (.next ({ s.resetFields with timeoutLimit := limit.toNat, initialized := true }.giveResult .initDone))

/-- A chunk is opened: the index of the next byte is 0 (10_state R34). An empty chunk is exhausted at once, and the
command returns (log entry 19). -/
def State.openChunk (s : State) (chunk : List Byte) : State :=
  { s with
    rx := chunk
    bytePos := 0
    results := if chunk = [] then s.results ++ [.decodeDone] else s.results }

/-- DECODE `chunk` (41_decoder R82): the usage check and the entry. The loop over the bytes is the machine's: each
following step is the byte step of the next byte (`fetch`), and no other command is taken before the chunk is exhausted
(20_memory R46; log entry 1). -/
def execDecode (chunk : List Byte) (s : State) : Host.Outcome State Fault Refusal :=
  ifLive s (ifInitialized s .decodeBeforeInit (.next ({ s with currentStatus := .decoding }.openChunk chunk)))

/-- END in discard mode (41_decoder R85): the end of an aborted frame; no check, no status, no event. -/
def State.endDiscard (s : State) : State :=
  { s with discarding := false, isReceiving := false, receivedCount := 0, pendingEscape := false, badEscape := false }

/-- The fields that END writes before FRAME_CHECK (41_decoder R85). -/
def State.closeFrame (s : State) : State :=
  { s with lastFrameLength := s.receivedCount, receivedCount := 0, isReceiving := false, pendingEscape := false }

/-- The part of FRAME_CHECK that records the verdict (41_decoder R86), and DELIVER for a good frame (R87). -/
def State.recordVerdict (s : State) (v : Status) (frame : List Byte) : State :=
  { s with
    badEscape := false
    currentStatus := v
    lastStatus := v
    events := if v = .success then s.events ++ [.frameDelivered s.lastFrameLength frame] else s.events }

/-- FRAME_CHECK (41_decoder R86). -/
def frameCheck (s : State) : Host.Outcome State Fault Refusal :=
  match s.frame s.lastFrameLength with
  | some frame => .next (s.recordVerdict (frameVerdict s.params.crc s.badEscape frame) frame)
  | none => .fault .bufferBounds

/-- END_STEP (41_decoder R85). -/
def endStep (s : State) : Host.Outcome State Fault Refusal :=
  if s.discarding then .next s.endDiscard else frameCheck s.closeFrame

/-- DATA_FIRST (41_decoder R92). -/
def State.dataFirst (s : State) : State :=
  if s.isReceiving then s else { s with timeoutCount := 0, isReceiving := true }

/-- The byte that DATA_RESOLVE returns (41_decoder R93). -/
def resolvedByte (pendingEscape : Bool) (b : Byte) : Byte :=
  if pendingEscape = false then b else if b = wireEscEnd then wireEnd else wireEsc

/-- Whether DATA_RESOLVE finds a malformed escape (41_decoder R93, 30_encoding R65). -/
def malformedEscape (s : State) (b : Byte) : Bool :=
  s.pendingEscape && b != wireEscEnd && b != wireEscEsc && decide (s.params.escapePolicy = .strict)

/-- The fields that DATA_RESOLVE writes (41_decoder R93). -/
def State.resolveEscape (s : State) (b : Byte) : State :=
  { s with pendingEscape := false, badEscape := s.badEscape || malformedEscape s b }

/-- OVERRUN (41_decoder R94). -/
def State.overrun (s : State) : State :=
  { s with
    discarding := true
    receivedCount := 0
    pendingEscape := false
    badEscape := false
    currentStatus := .bufferOverrun
    lastStatus := .bufferOverrun }

/-- DATA_WRITE (41_decoder R95). -/
def State.dataWrite (s : State) (v : Byte) : State :=
  { s with buf := Memory.write s.buf s.receivedCount v, receivedCount := s.receivedCount + 1 }

/-- DATA_STEP (41_decoder R91): first-byte part, resolve part, capacity check, write part. -/
def dataStep (b : Byte) (s : State) : State :=
  let t := s.dataFirst.resolveEscape b
  if t.params.cap ≤ t.receivedCount then t.overrun
  else t.dataWrite (resolvedByte s.pendingEscape b)

/-- ESC_STEP (41_decoder R90). -/
def State.escStep (s : State) : State := { s with pendingEscape := true }

/-- A byte step for an ESC or DATA byte: dropped in discard mode (41_decoder R84, R97). -/
def ifNotDiscarding (s t : State) : Host.Outcome State Fault Refusal :=
  .next (if s.discarding then s else t)

/-- RX_END (41_decoder R85). -/
def execRxEnd (s : State) : Host.Outcome State Fault Refusal := ifLive s (endStep s)

/-- RX_ESC (41_decoder R90, R97). -/
def execRxEsc (s : State) : Host.Outcome State Fault Refusal := ifLive s (ifNotDiscarding s s.escStep)

/-- RX_DATA (41_decoder R91, R96, R97). -/
def execRxData (d : Byte) (s : State) : Host.Outcome State Fault Refusal := ifLive s (ifNotDiscarding s (dataStep d s))

/-- RX_DATA_ESC_END (41_decoder R93, R96, R97). -/
def execRxDataEscEnd (s : State) : Host.Outcome State Fault Refusal :=
  ifLive s (ifNotDiscarding s (dataStep wireEscEnd s))

/-- RX_DATA_ESC_ESC (41_decoder R93, R96, R97). -/
def execRxDataEscEsc (s : State) : Host.Outcome State Fault Refusal :=
  ifLive s (ifNotDiscarding s (dataStep wireEscEsc s))

/-- RX_DATA_ESC_BAD (41_decoder R93, R96, R97). -/
def execRxDataEscBad (d : Byte) (s : State) : Host.Outcome State Fault Refusal :=
  ifLive s (ifNotDiscarding s (dataStep d s))

end Sys2Proof.Machine
end

