-- ==== Sys2Proof/Machine/Encoder.lean ====
section
/-! DEFINITION. The encoder and its escape codec: ENCODE (43_encoder.md), ESCAPE and the codec's input classes
(40_escape_codec.md). None of them reads or writes a field of the decoder instance (43_encoder R116). -/

namespace Sys2Proof.Machine

/-- ENCODE `P` (43_encoder R111, R113); a payload longer than `MAX_PAYLOAD` is refused (R112). -/
def execEncode (payload : List Byte) (s : State) : Host.Outcome State Fault Refusal :=
  if s.params.payloadFits payload then
    .next ((s.sendGroups (wireGroups s.params.crc payload)).giveResult (.encoded true))
  else .refused .payloadTooLong

/-- The codec's answer (40_escape_codec R74): its bytes and their count. -/
def State.giveEscaped (s : State) (bytes : List Byte) : State := s.giveResult (.escaped bytes bytes.length)

/-- ESCAPE `b` (40_escape_codec R75). -/
def execEscape (b : Byte) (s : State) : Host.Outcome State Fault Refusal := .next (s.giveEscaped (escapeByte b))

/-- ESC_IN_END (40_escape_codec R74). -/
def execEscInEnd (s : State) : Host.Outcome State Fault Refusal := .next (s.giveEscaped [wireEsc, wireEscEnd])

/-- ESC_IN_ESC (40_escape_codec R74). -/
def execEscInEsc (s : State) : Host.Outcome State Fault Refusal := .next (s.giveEscaped [wireEsc, wireEscEsc])

/-- ESC_IN_PASS (40_escape_codec R74). -/
def execEscInPass (b : Byte) (s : State) : Host.Outcome State Fault Refusal := .next (s.giveEscaped [b])

end Sys2Proof.Machine
end

