-- ==== Sys2Proof/Machine/RegisterRead.lean ====
section
/-! DEFINITION. READ (44_register_read.md), and the two reserved command codes (30_encoding R71). -/

namespace Sys2Proof.Machine

/-- READ `n` (44_register_read R119). -/
def execRead (n : BitVec 29) (s : State) : Host.Outcome State Fault Refusal :=
  ifLive s
    (match registerOf s.params.cap n.toNat with
     | some r => .next ((afterRegisterRead s r).giveResult (.value (registerValue s r)))
     | none => .next (s.raise .badRegister))

/-- RESERVED_6 (30_encoding R71): refused. -/
def execReserved6 (_rest : BitVec 29) (_s : State) : Host.Outcome State Fault Refusal := .refused .reservedOp6

/-- RESERVED_7 (30_encoding R71): refused. -/
def execReserved7 (_rest : BitVec 29) (_s : State) : Host.Outcome State Fault Refusal := .refused .reservedOp7

end Sys2Proof.Machine
end

