-- ==== Sys2Proof/Machine/Timeout.lean ====
section
/-! DEFINITION. The timeout monitor: TICK (42_timeout.md). -/

namespace Sys2Proof.Machine

/-- Whether a TICK counts (42_timeout R103: the `Gated` arm ignores a TICK while no frame is in progress). -/
def tickCounts (s : State) : Bool := !(decide (s.params.tickGating = .gated) && !s.isReceiving)

/-- The timeout (42_timeout R103, R104): reinitialisation, the event, and the result true. -/
def State.timeOut (s : State) : State := (s.resetFields.emit .timedOut).giveResult (.ticked true)

/-- A TICK of an initialized instance (42_timeout R103). -/
def tickStep (s : State) : State :=
  if tickCounts s = false then s.giveResult (.ticked false)
  else if s.timeoutLimit ≤ s.timeoutCount + 1 then { s with timeoutCount := s.timeoutCount + 1 }.timeOut
  else { s with timeoutCount := s.timeoutCount + 1 }.giveResult (.ticked false)

/-- TICK (42_timeout R103). -/
def execTick (s : State) : Host.Outcome State Fault Refusal :=
  ifLive s (ifInitialized s .tickBeforeInit (.next (tickStep s)))

end Sys2Proof.Machine
end

