-- ==== Sys2Proof/Machine/Dispatch.lean ====
section
/-! DEFINITION. The dispatch: one arm per row of spec/opcode_table.json, each a direct call of its meaning. -/

namespace Sys2Proof.Machine

def exec (i : Instr) (s : State) : Host.Outcome State Fault Refusal :=
  match i with
  | .init limit => Sys2Proof.Machine.execInit limit s
  | .decode chunk => Sys2Proof.Machine.execDecode chunk s
  | .tick => Sys2Proof.Machine.execTick s
  | .encode payload => Sys2Proof.Machine.execEncode payload s
  | .escape b => Sys2Proof.Machine.execEscape b s
  | .read n => Sys2Proof.Machine.execRead n s
  | .reserved6 rest => Sys2Proof.Machine.execReserved6 rest s
  | .reserved7 rest => Sys2Proof.Machine.execReserved7 rest s
  | .rxEnd => Sys2Proof.Machine.execRxEnd s
  | .rxEsc => Sys2Proof.Machine.execRxEsc s
  | .rxData d => Sys2Proof.Machine.execRxData d s
  | .rxDataEscEnd => Sys2Proof.Machine.execRxDataEscEnd s
  | .rxDataEscEsc => Sys2Proof.Machine.execRxDataEscEsc s
  | .rxDataEscBad d => Sys2Proof.Machine.execRxDataEscBad d s
  | .escInEnd => Sys2Proof.Machine.execEscInEnd s
  | .escInEsc => Sys2Proof.Machine.execEscInEsc s
  | .escInPass b => Sys2Proof.Machine.execEscInPass b s

end Sys2Proof.Machine
end

