-- ==== Sys2Proof/Machine/Fetch.lean ====
section
/-! DEFINITION. What the machine does next: the next byte of the DECODE in progress, or the next input, or waiting. -/

namespace Sys2Proof.Machine

/-- The outcome of a fetch. -/
inductive Fetched where
  /-- Nothing to do: the block waits for commands (70_reset R139). -/
  | waiting
  /-- The reset input: the state after it. -/
  | reset (after : State)
  /-- An instruction, and the state with it taken. -/
  | run (i : Instr) (taken : State)
  /-- A word that names no instruction (30_encoding R71). -/
  | rejected (why : DecodeError)
deriving DecidableEq, Repr

/-- The next byte of the chunk is taken: the index advances by 1, and the command returns when the chunk is exhausted
(10_state R34; log entry 19). -/
def State.takeByte (s : State) : State :=
  { s with
    rx := s.rx.tail
    bytePos := s.bytePos + 1
    results := if s.rx.tail = [] then s.results ++ [.decodeDone] else s.results }

/-- The next input is taken. -/
def State.takeInput (s : State) : State := { s with inbox := s.inbox.tail }

/-- What an input asks for. -/
def fetchInput (s : State) : Input → Fetched
  | .command w bytes =>
    match decodeCommand s.params w bytes with
    | .ok i => .run i s.takeInput
    | .error why => .rejected why
  | .codecByte b => .run (decodeCodec b) s.takeInput
  | .hardwareReset => .reset s.takeInput.hardwareReset

/-- The bytes of the chunk in progress come first, left to right (20_memory R46, R49); then the inputs, in order. -/
def fetch (s : State) : Fetched :=
  match s.rx with
  | b :: _ => .run (decodeByte s.pendingEscape b) s.takeByte
  | [] =>
    match s.inbox with
    | input :: _ => fetchInput s input
    | [] => .waiting

/-- The refusal of a rejected word. -/
def rejection : DecodeError → Refusal
  | .unusedBits => .unusedBitsSet
  | .strayByteList => .strayByteList

/-- The state in which the next fetch finds a command word. -/
def State.withCommand (s : State) (w : Word) (bytes : List Byte) : State :=
  { s with rx := [], inbox := .command w bytes :: s.inbox }

/-- The state in which the next fetch finds a received byte, as the only byte left of a chunk, with the pending escape that
its row of the opcode table asks for; END and ESC have one row whatever is pending (log entry 9). -/
def State.withReceivedByte (s : State) (b : Byte) : State :=
  { s with rx := [b], pendingEscape := if b = wireEnd ∨ b = wireEsc then s.pendingEscape else rowContext b }

/-- The state in which the next fetch finds the bits of a row of spec/opcode_table.json. -/
def State.placeWord (s : State) (nbits w : Nat) : State :=
  if nbits = 8 then s.withReceivedByte (BitVec.ofNat 8 w) else s.withCommand (BitVec.ofNat 32 w) []

end Sys2Proof.Machine
end

