-- ==== Sys2Proof/Machine/Step.lean ====
section
/-! DEFINITION. One step of the machine, and where it finds its next instruction. -/

namespace Sys2Proof.Machine

/-- One step: one command, or one byte step of the DECODE in progress (70_reset R151), or the hardware reset; with nothing
to do the block waits (R139). -/
def step (s : State) : Host.Outcome State Fault Refusal :=
  match fetch s with
  | .run i taken => exec i taken
  | .reset after => .next after
  | .waiting => .next s
  | .rejected why => .refused (rejection why)

/-- `s` with the bits of a row of spec/opcode_table.json where `step` fetches next (log entries 2 and 9). -/
def State.withFetchWord (s : State) (nbits w : Nat) : State := s.placeWord nbits w

end Sys2Proof.Machine
end

