-- ==== Sys2Proof/Machine/Instances.lean ====
section
/-! DEFINITION. Several decoder instances (00_scope R10, 60_exceptions R134): copies of the state, each with its own buffer,
its own command order and its own traces, under one set of parameters and one reset input. -/

namespace Sys2Proof.Machine

/-- A block of several decoder instances. The parameters of 00_scope R7 are the block's, fixed once for the run (70_reset
R140): `CRC16` is one parameter for all (60_exceptions R134). -/
structure Block where
  /-- The parameters of every instance. -/
  params : Params
  /-- The instances; the host names one by its place in the list (60_exceptions R134; log entry 16). -/
  units : List State
deriving DecidableEq, Repr

/-- Instance `k`, under the block's parameters and with its own number. What its entry of the list holds in those two
fields is not read. -/
def Block.unit (b : Block) (k : Nat) : Option State :=
  (b.units[k]?).map (fun s => { s with params := b.params, number := k })

/-- The block with another state for instance `k`. -/
def Block.setUnit (b : Block) (k : Nat) (s : State) : Block := { b with units := b.units.set k s }

/-- A block of `n` instances right after hardware reset. -/
def Block.reset (params : Params) (n : Nat) : Block := { params := params, units := List.replicate n State.reset }

/-- Hardware reset puts every instance in its reset state (70_reset R137). A DECODE that another instance has in progress
does not go on (log entry 13). -/
def Block.hardwareReset (b : Block) : Block := { b with units := b.units.map State.hardwareReset }

/-- Whether the next step takes the reset input. -/
def takesReset (s : State) : Bool :=
  match fetch s with
  | .run _ _ => false
  | .reset _ => true
  | .waiting => false
  | .rejected _ => false

/-- A step of instance `k`. It leaves the others as they are (60_exceptions R134), but for the reset input, which is the
block's and reaches every instance, whichever one's inputs it stands in (70_reset R137; log entry 13). A number with no instance
takes no step. -/
def stepUnit (k : Nat) (b : Block) : Host.Outcome Block Fault Refusal :=
  match b.unit k with
  | none => .next b
  | some s =>
    match step s with
    | .next t => .next ((if takesReset s then b.hardwareReset else b).setUnit k t)
    | .fault r => .fault r
    | .refused r => .refused r

end Sys2Proof.Machine
end

