-- ==== Sys2Proof/Safety.lean ====
section
/-! DEFINITION. The terms in which statements about the machine are made: the invariant of 10_state R32, the byte steps of a
chunk as one function, and what the encoder puts on the wire. -/

namespace Sys2Proof.Machine

/-- What holds in every state that hardware reset and the steps of the machine reach: the six items of 10_state R32, and
what the model adds to them (the parameters' constraints, the canonical form of the buffer, that the bytes of the frame in
progress have been written, that a chunk is in progress only in a live instance, what Uninitialized means). -/
structure Inv (s : State) : Prop where
  /-- 00_scope R7, 30_encoding R69. -/
  paramsValid : s.params.valid = true
  /-- R32 item 1. -/
  countWithinCap : s.receivedCount ≤ s.params.cap
  /-- 41_decoder R98. -/
  lastLengthWithinCap : s.lastFrameLength ≤ s.params.cap
  /-- R32 item 2. -/
  idleIsEmpty : s.isReceiving = false → s.receivedCount = 0
  /-- R32 item 3. -/
  discardingIsClean : s.discarding = true →
    s.isReceiving = true ∧ s.receivedCount = 0 ∧ s.pendingEscape = false ∧ s.badEscape = false
  /-- R32 item 4. -/
  badEscapeIsStrict : s.badEscape = true → s.isReceiving = true ∧ s.params.escapePolicy = .strict
  /-- R32 item 5. -/
  timeoutBelowLimit : s.timeoutCount = 0 ∨ s.timeoutCount < s.timeoutLimit
  /-- R32 item 6. -/
  widths : s.timeoutLimit ≤ 2 ^ s.params.timeoutW - 1 ∧ s.receivedCount ≤ 2 ^ s.params.lenW - 1
  /-- 10_state R25, R26: a status of this DECODE is the last status. -/
  statusAgrees : s.currentStatus = .decoding ∨ s.currentStatus = s.lastStatus
  /-- The canonical form of `Buf`. -/
  bufCanonical : Memory.wf s.buf = true
  /-- 20_memory R39, R45. -/
  bufWithinCap : ∀ c ∈ s.buf, c.1 < s.params.cap
  /-- 70_reset R138: the bytes of the frame in progress have been written. -/
  frameWritten : ∀ i, i < s.receivedCount → (Memory.read s.buf i).isSome = true
  /-- 41_decoder R82, 60_exceptions R125: a chunk is in progress only in an initialized instance that is not faulted. -/
  chunkIsLive : s.rx ≠ [] → s.initialized = true ∧ s.faulted = false
  /-- 10_state R38, 44_register_read R119: before INIT the fields hold their reset values. -/
  uninitialized : s.initialized = false → { s.resetFields with timeoutLimit := 0 } = s

/-- The byte step of a received byte (41_decoder R84), as the machine selects it. -/
def byteStep (b : Byte) (s : State) : Host.Outcome State Fault Refusal := exec (decodeByte s.pendingEscape b) s

/-- `next` goes on; a fault or a refusal stops. -/
def andThen (o : Host.Outcome State Fault Refusal) (k : State → Host.Outcome State Fault Refusal) :
    Host.Outcome State Fault Refusal :=
  match o with
  | .next s => k s
  | .fault r => .fault r
  | .refused r => .refused r

/-- `k` steps of the machine, stopping at the first fault or refusal. It is the host's `Host.Core.run` of this machine
(`Sys2Proof.Machine.run_eq_steps`). -/
def steps : Nat → State → Host.Outcome State Fault Refusal
  | 0, s => .next s
  | k + 1, s => andThen (step s) (steps k)

/-- The loop of DECODE (41_decoder R82): the byte steps of a list, left to right. -/
def byteSteps : List Byte → State → Host.Outcome State Fault Refusal
  | [], s => .next s
  | b :: rest, s => andThen (byteStep b s) (byteSteps rest)

/-- DECODE of one chunk as 41_decoder R82 writes it: the entry, then the loop. -/
def decodeChunk (chunk : List Byte) (s : State) : Host.Outcome State Fault Refusal :=
  byteSteps chunk { s with currentStatus := .decoding }

/-- Consecutive DECODEs with no other command between them (41_decoder R100). -/
def decodeChunks : List (List Byte) → State → Host.Outcome State Fault Refusal
  | [], s => .next s
  | chunk :: rest, s => andThen (decodeChunk chunk s) (decodeChunks rest)

/-- Whether the byte step of `b` writes a status: an END outside discard mode (41_decoder R86) or an overrun (R94). -/
def writesStatus (b : Byte) (s : State) : Bool :=
  !s.faulted && !s.discarding && (b == wireEnd || (b != wireEsc && decide (s.params.cap ≤ s.receivedCount)))

/-- The status that the byte steps of a list wrote last, if one of them wrote a status (41_decoder R99): that of a later byte
comes before that of an earlier one. -/
def statusWritten : List Byte → State → Option Status
  | [], _ => none
  | b :: rest, s =>
    match byteStep b s with
    | .next t => (statusWritten rest t).or (if writesStatus b s then some t.currentStatus else none)
    | .fault _ => none
    | .refused _ => none

/-- The first column of the table of 10_state R38: the fields after hardware reset. `Buf`, unspecified there, holds no byte
(log entry 5). -/
structure ResetColumn (t : State) : Prop where
  receivedCount : t.receivedCount = 0
  lastFrameLength : t.lastFrameLength = 0
  isReceiving : t.isReceiving = false
  pendingEscape : t.pendingEscape = false
  timeoutCount : t.timeoutCount = 0
  timeoutLimit : t.timeoutLimit = 0
  currentStatus : t.currentStatus = .decoding
  lastStatus : t.lastStatus = .decoding
  initialized : t.initialized = false
  faulted : t.faulted = false
  discarding : t.discarding = false
  badEscape : t.badEscape = false
  buf : ∀ i, Memory.read t.buf i = none

/-- `TICK*n` (30_encoding R73). -/
def ticks : Nat → State → Host.Outcome State Fault Refusal
  | 0, s => .next s
  | n + 1, s => andThen (exec .tick s) (ticks n)

/-- `wire(P)` (30_encoding R61): what the output groups of ENCODE `P` put on the wire (43_encoder R114). -/
def wire (f : CrcFunction) (payload : List Byte) : List Byte := (wireGroups f payload).flatten

/-- The unescaped frame of a payload (30_encoding R63). -/
def unescapedFrame (f : CrcFunction) (payload : List Byte) : List Byte := payload ++ trailer (crc16 f payload)

/-- The commands and byte steps of a decoder instance (10_state R15; READ is its register view, 30_encoding R68). -/
def isDecoderStep : Instr → Bool
  | .init _ => true
  | .decode _ => true
  | .tick => true
  | .encode _ => false
  | .escape _ => false
  | .read _ => true
  | .reserved6 _ => false
  | .reserved7 _ => false
  | .rxEnd => true
  | .rxEsc => true
  | .rxData _ => true
  | .rxDataEscEnd => true
  | .rxDataEscEsc => true
  | .rxDataEscBad _ => true
  | .escInEnd => false
  | .escInEsc => false
  | .escInPass _ => false

/-- The DATA byte steps, with the byte each one received: the only instructions that write `Buf` (20_memory R39). -/
def dataByteOf : Instr → Option Byte
  | .init _ => none
  | .decode _ => none
  | .tick => none
  | .encode _ => none
  | .escape _ => none
  | .read _ => none
  | .reserved6 _ => none
  | .reserved7 _ => none
  | .rxEnd => none
  | .rxEsc => none
  | .rxData d => some d
  | .rxDataEscEnd => some wireEscEnd
  | .rxDataEscEsc => some wireEscEsc
  | .rxDataEscBad d => some d
  | .escInEnd => none
  | .escInEsc => none
  | .escInPass _ => none

end Sys2Proof.Machine
end

