-- ==== Sys2Proof/Certificates/Slice0/Obligations.lean ====
section
/-! DEFINITION. The statements about the machine, from the numbered rules of spec/. Several rules of the spec carry a mark of
its own: "decision" where the rule is the spec's choice and not the source's, "derived" where it is an inference from other
rules, "from general knowledge". A docstring names the mark where its statement rests on one. -/

open Sys2Proof Sys2Proof.Machine

/-! ## The step, reset and the reserved words -/

/-- A step runs the decoded instruction. With a chunk in progress: the byte step of its next byte, with the byte taken and the
index advanced by 1 (10_state R34); that the bytes are steps is the model's choice (log entry 1), and that the command's
return is recorded in the step that takes the last byte is read from R34 by the model (log entry 19). With none: the
command or the codec byte at the head of the inbox; the queue and the codec byte are the model's choice (log entries
2, 8). -/
def Obligations.StepRunsDecodedInstruction : Prop :=
  (∀ (s : State) (b : Byte) (rest : List Byte), s.rx = b :: rest →
    step s = exec (decodeByte s.pendingEscape b)
      { s with
        rx := rest
        bytePos := s.bytePos + 1
        results := if rest = [] then s.results ++ [.decodeDone] else s.results }) ∧
  (∀ (s : State) (w : Word) (bytes : List Byte) (more : List Input) (i : Instr), s.rx = [] →
    s.inbox = .command w bytes :: more → decodeCommand s.params w bytes = .ok i →
    step s = exec i { s with inbox := more }) ∧
  (∀ (s : State) (b : Byte) (more : List Input), s.rx = [] → s.inbox = .codecByte b :: more →
    step s = exec (decodeCodec b) { s with inbox := more })

/-- Hardware reset leaves the first column of 10_state R38's table, in State.reset and in the state after a reset input, and the
control state is Uninitialized (70_reset R137; decisions D4, D13). Two clauses are the model's choice: that no byte of `Buf`,
unspecified there, has a value (log entry 5), and that the event trace is empty, since a new run begins (log entry 13). -/
def Obligations.ResetStateIsTheResetColumn : Prop :=
  ∀ t : State,
    (t = State.reset ∨ ∃ (s : State) (more : List Input), s.rx = [] ∧ s.inbox = .hardwareReset :: more ∧ step s = .next t) →
    ResetColumn t ∧ controlState t = .uninitialized ∧ t.events = []

/-- The reset input reaches every decoder instance (70_reset R137): the step that takes it completes, no instance goes or
comes, and every one is at the reset column, Uninitialized, under the block's parameters (R140). The rest is the model's
choice: that the input stands in the inputs of one instance, that every instance keeps the inputs it had not taken, that a
chunk in progress in another instance ends, and that the traces are empty (all four: log entry 13); that no byte of `Buf` has
a value (log entry 5); and that a block is a list (log entry 16). -/
def Obligations.ResetReachesEveryInstance : Prop :=
  ∀ (k : Nat) (b : Block) (s : State) (more : List Input), b.unit k = some s → s.rx = [] →
    s.inbox = .hardwareReset :: more →
    ∃ after, stepUnit k b = .next after ∧ after.params = b.params ∧ after.units.length = b.units.length ∧
      ∀ (j : Nat) (u t : State), b.unit j = some u → after.unit j = some t →
        ResetColumn t ∧ controlState t = .uninitialized ∧ t.rx = [] ∧ t.events = [] ∧ t.params = b.params ∧
        t.inbox = if j = k then more else u.inbox

/-- The steps that run no instruction. The reset input, in any state between commands: the fields of the reset column
(70_reset R137) and the parameters kept (R140). The model's choice in it: that no byte of `Buf`, unspecified after reset, has
a value (log entry 5), and that the traces of the new run are empty and the waiting inputs, the count of draws and the
instance's number are kept (log entry 13). With nothing to do the block waits, and nothing changes (R139: "After reset it waits for
commands"; that waiting is a step which changes nothing is the model's choice, log entry 2). -/
def Obligations.ResetBeginsANewRunAndWaitingChangesNothing : Prop :=
  (∀ (s : State) (more : List Input), s.rx = [] → s.inbox = .hardwareReset :: more →
    step s =
      .next { State.reset with params := s.params, inbox := more, draws := s.draws, number := s.number }) ∧
  ∀ s : State, s.rx = [] → s.inbox = [] → step s = .next s

/-- A reserved command word is refused: `OP` 6 and 7, and a nonzero bit that its command does not use; and the two reserved
rows have no meaning in any state (30_encoding R71, with the fields of R69; decision D2). -/
def Obligations.ReservedWordsAreRefused : Prop :=
  (∀ (s : State) (w : Word) (bytes : List Byte) (more : List Input), s.rx = [] → s.inbox = .command w bytes :: more →
    ((w.extractLsb' 0 3 = 6#3 ∨ w.extractLsb' 0 3 = 7#3) ∨
     ((w.extractLsb' 0 3 = 1#3 ∨ w.extractLsb' 0 3 = 2#3 ∨ w.extractLsb' 0 3 = 3#3) ∧ w.extractLsb' 3 29 ≠ 0#29) ∨
     (w.extractLsb' 0 3 = 4#3 ∧ 2 ^ 8 ≤ (w.extractLsb' 3 29).toNat) ∨
     (w.extractLsb' 0 3 = 0#3 ∧ 2 ^ s.params.timeoutW ≤ (w.extractLsb' 3 29).toNat)) →
    ∃ r, step s = .refused r) ∧
  ∀ (s : State) (rest : BitVec 29),
    exec (.reserved6 rest) s = .refused .reservedOp6 ∧ exec (.reserved7 rest) s = .refused .reservedOp7

/-! ## Encoding -/

/-- Decode of encode: every well-formed instruction, under every parameters and in the context its row asks for, is
decoded from its encoding, whatever its operands (30_encoding R64, R65, R69, R70). -/
def Obligations.DecodeOfEncode : Prop :=
  ∀ (p : Params) (pendingEscape : Bool) (i : Instr), i.wellFormed p = true → contextFits pendingEscape i = true →
    decode p pendingEscape (encode i) = .ok i

/-- Encode of decode: whatever the decoder accepts is the encoding of the one instruction it answers, in its context, and
that instruction is well formed unless it is an ENCODE (whose length ENCODE itself checks): no word has two readings. That it
holds of the commands with no byte list is because a stray list is refused, and of codec bytes because they have an input of
their own: both are the model's choice (log entries 11 and 8). -/
def Obligations.EncodeOfDecode : Prop :=
  ∀ (p : Params) (pendingEscape : Bool) (e : Encoded) (i : Instr), decode p pendingEscape e = .ok i →
    encode i = e ∧ contextFits pendingEscape i = true ∧ (i.wellFormed p = true ∨ ∃ payload, i = .encode payload)

/-- Every word of 95_test_vectors section 2.1, under its default parameters (log entry 3): the command it decodes to; and the
reserved words, which a step refuses. -/
def Obligations.CommandWordVectors : Prop :=
  let d := decodeCommand Params.default
  (d 0x00000000#32 [] = .ok (.init 0#29) ∧ d 0x00000010#32 [] = .ok (.init 2#29) ∧
    d 0x00000018#32 [] = .ok (.init 3#29) ∧ d 0x00000028#32 [] = .ok (.init 5#29) ∧
    d 0x0007FFF8#32 [] = .ok (.init 0xFFFF#29)) ∧
  (∀ bytes, d 0x00000001#32 bytes = .ok (.decode bytes)) ∧
  d 0x00000002#32 [] = .ok .tick ∧
  (∀ bytes, d 0x00000003#32 bytes = .ok (.encode bytes)) ∧
  (d 0x00000004#32 [] = .ok (.escape 0x00#8) ∧ d 0x00000604#32 [] = .ok (.escape 0xC0#8) ∧
    d 0x000006DC#32 [] = .ok (.escape 0xDB#8) ∧ d 0x000007FC#32 [] = .ok (.escape 0xFF#8)) ∧
  (d 0x00000005#32 [] = .ok (.read 0#29) ∧ d 0x0000000D#32 [] = .ok (.read 1#29) ∧
    d 0x00000015#32 [] = .ok (.read 2#29) ∧ d 0x0000001D#32 [] = .ok (.read 3#29) ∧
    d 0x00000025#32 [] = .ok (.read 4#29)) ∧
  (d 0x00000805#32 [] = .ok (.read 0x100#29) ∧ d 0x0000080D#32 [] = .ok (.read 0x101#29) ∧
    d 0x0000081D#32 [] = .ok (.read 0x103#29) ∧ d 0x0000087D#32 [] = .ok (.read 0x10F#29) ∧
    d 0x00000885#32 [] = .ok (.read 0x110#29)) ∧
  step (State.reset.withCommand 0x00000006#32 []) = .refused .reservedOp6 ∧
  step (State.reset.withCommand 0x00000007#32 []) = .refused .reservedOp7 ∧
  step (State.reset.withCommand 0x0000000A#32 []) = .refused .unusedBitsSet ∧
  step (State.reset.withCommand 0x00000804#32 []) = .refused .unusedBitsSet ∧
  step (State.reset.withCommand 0x00080000#32 []) = .refused .unusedBitsSet

/-- The classes of a received byte: RX_END is exactly `0xC0` and RX_ESC exactly `0xDB` whatever is pending; every other
value is an RX_DATA byte, whose row depends on the pending escape (30_encoding R64, R65). -/
def Obligations.ReceivedByteClasses : Prop :=
  ∀ (pendingEscape : Bool) (b : Byte),
    (decodeByte pendingEscape b = .rxEnd ↔ b = 0xC0#8) ∧
    (decodeByte pendingEscape b = .rxEsc ↔ b = 0xDB#8) ∧
    (decodeByte pendingEscape b = .rxData b ↔ b ≠ 0xC0#8 ∧ b ≠ 0xDB#8 ∧ pendingEscape = false) ∧
    (decodeByte pendingEscape b = .rxDataEscEnd ↔ b = 0xDC#8 ∧ pendingEscape = true) ∧
    (decodeByte pendingEscape b = .rxDataEscEsc ↔ b = 0xDD#8 ∧ pendingEscape = true) ∧
    (decodeByte pendingEscape b = .rxDataEscBad b ↔
      b ≠ 0xC0#8 ∧ b ≠ 0xDB#8 ∧ b ≠ 0xDC#8 ∧ b ≠ 0xDD#8 ∧ pendingEscape = true)

/-! ## The escape codec, the encoder and the CRC -/

/-- ESCAPE completes in every state, Faulted and Uninitialized included: it returns the byte's escape sequence and its count,
and nothing else changes (40_escape_codec R74, R75; decisions D2, D15). -/
def Obligations.EscapeReturnsItsSequence : Prop :=
  ∀ s : State,
    exec (.escape 0xC0#8) s = .next { s with results := s.results ++ [.escaped [0xDB#8, 0xDC#8] 2] } ∧
    exec (.escape 0xDB#8) s = .next { s with results := s.results ++ [.escaped [0xDB#8, 0xDD#8] 2] } ∧
    ∀ b : Byte, b ≠ 0xC0#8 → b ≠ 0xDB#8 → exec (.escape b) s = .next { s with results := s.results ++ [.escaped [b] 1] }

/-- The three input classes of the codec complete in every state with the sequence of 40_escape_codec R74. That the codec
has an input of its own, which answers as the ESCAPE command does, is the model's choice (log entry 8). -/
def Obligations.CodecClassesReturnTheirSequence : Prop :=
  ∀ s : State,
    exec .escInEnd s = .next { s with results := s.results ++ [.escaped [0xDB#8, 0xDC#8] 2] } ∧
    exec .escInEsc s = .next { s with results := s.results ++ [.escaped [0xDB#8, 0xDD#8] 2] } ∧
    ∀ b : Byte, b ≠ 0xC0#8 → b ≠ 0xDB#8 →
      exec (.escInPass b) s = .next { s with results := s.results ++ [.escaped [b] 1] }

/-- ENCODE of an accepted payload completes in every state: one group for each payload byte, the escaped high and low byte
of the CRC of the raw payload, the raw END, and the result true; no other field changes (43_encoder R111, R113). -/
def Obligations.EncodeStreamsTheFrame : Prop :=
  ∀ (s : State) (payload : List Byte), (∀ most, s.params.maxPayload = some most → payload.length ≤ most) →
    exec (.encode payload) s =
      .next { s with
        sink := s.sink ++ payload.map escapeByte ++
          [escapeByte ((crc16 s.params.crc payload).extractLsb' 8 8),
           escapeByte ((crc16 s.params.crc payload).extractLsb' 0 8), [0xC0#8]]
        results := s.results ++ [.encoded true] }

/-- ENCODE is refused exactly when the payload is longer than `MAX_PAYLOAD` (43_encoder R112; decision D16). -/
def Obligations.EncodeRefusesExactlyTheTooLong : Prop :=
  ∀ (s : State) (payload : List Byte),
    exec (.encode payload) s = .refused .payloadTooLong ↔
      ∃ most, s.params.maxPayload = some most ∧ most < payload.length

/-- The frame on the wire (30_encoding R61): the escaped payload, the escaped high and low byte of the CRC of the unescaped
payload, one raw END, and nothing else; it is what the groups of ENCODE concatenate to. -/
def Obligations.WireFrameLayout : Prop :=
  ∀ (f : CrcFunction) (payload : List Byte),
    (wireGroups f payload).flatten =
      payload.flatMap escapeByte ++ escapeByte ((crc16 f payload).extractLsb' 8 8) ++
        escapeByte ((crc16 f payload).extractLsb' 0 8) ++ [0xC0#8]

/-- ENCODE's output (43_encoder R114, R115, 30_encoding R62, all derived): `len(P) + 3` groups of 1 or 2 bytes; exactly one
END, which is the last byte; and a length of `len(P) + 3` and one more for each byte of the unescaped frame that is END or
ESC. -/
def Obligations.WireHasOneEndLast : Prop :=
  ∀ (f : CrcFunction) (payload : List Byte),
    (wireGroups f payload).length = payload.length + 3 ∧
    (∀ g ∈ wireGroups f payload, g.length = 1 ∨ g.length = 2) ∧
    (wire f payload).count 0xC0#8 = 1 ∧ (wire f payload).getLast? = some 0xC0#8 ∧
    (wire f payload).length = payload.length + 3 +
      (unescapedFrame f payload).countP (fun b => decide (b = 0xC0#8 ∨ b = 0xDB#8))

/-- An escaped list holds no END, every ESC in it is followed by ESC_END or ESC_ESC, and its length counts the escaped bytes
(40_escape_codec R77 items 1 to 3, derived). -/
def Obligations.EscapedListIsMarkerSafe : Prop :=
  ∀ xs : List Byte,
    0xC0#8 ∉ escapeList xs ∧
    (∀ before after : List Byte, escapeList xs = before ++ 0xDB#8 :: after →
      ∃ c rest, after = c :: rest ∧ (c = 0xDC#8 ∨ c = 0xDD#8)) ∧
    (escapeList xs).length = xs.length + xs.countP (fun b => decide (b = 0xC0#8 ∨ b = 0xDB#8))

/-- Escaping loses nothing: two lists with the same escaped form are the same (40_escape_codec R77 item 4, derived). -/
def Obligations.EscapeListIsInjective : Prop :=
  ∀ xs ys : List Byte, escapeList xs = escapeList ys → xs = ys

/-- The residue law of 43_encoder R117 item 2, for the parameter and for the default CRC-16/XMODEM (that the default obeys
it is the spec's general knowledge, R118; log entry 4). -/
def Obligations.CrcResidueIsZero : Prop :=
  ∀ (f : CrcFunction) (payload : List Byte),
    crc16 f (payload ++ [(crc16 f payload).extractLsb' 8 8, (crc16 f payload).extractLsb' 0 8]) = 0#16

/-- The way the parameter is made adds nothing to 43_encoder R117: the function made from any `g` obeys the residue law,
and from a `g` that obeys it comes `g` itself (the model's own construction, log entry 4). -/
def Obligations.CrcParameterIsEveryLawfulFunction : Prop :=
  ∀ g : List Byte → BitVec 16,
    (∀ p, residueLawful g (p ++ trailer (residueLawful g p)) = 0#16) ∧
    ((∀ p, g (p ++ trailer (g p)) = 0#16) → ∀ xs, residueLawful g xs = g xs)

/-- Values of the default CRC-16/XMODEM, its check value among them (43_encoder R118 and 95_test_vectors section 2.3, both
from general knowledge; log entry 4). -/
def Obligations.XmodemVectors : Prop :=
  crc16 .xmodem [] = 0x0000#16 ∧ crc16 .xmodem [0x41#8] = 0x58E5#16 ∧ crc16 .xmodem [0xC0#8] = 0xD94C#16 ∧
  crc16 .xmodem [0x01#8, 0xC0#8, 0xDB#8] = 0x5B72#16 ∧ crc16 .xmodem [0x01#8, 0x02#8] = 0x1373#16 ∧
  crc16 .xmodem [0x31#8, 0x32#8, 0x33#8, 0x34#8, 0x35#8, 0x36#8, 0x37#8, 0x38#8, 0x39#8] = 0x31C3#16

/-! ## INIT, DECODE and the usage errors -/

/-- INIT of an instance that is not faulted completes: RESET_FIELDS, the limit, `initialized`; `Buf`, `faulted`, the traces
and the rest stay, and INIT returns. In a faulted instance it has no step (41_decoder R80, R81; decisions D3, D7, D8). -/
def Obligations.InitResetsTheInstance : Prop :=
  ∀ (s : State) (limit : BitVec 29),
    (s.faulted = false →
      exec (.init limit) s =
        .next { s with
          receivedCount := 0
          lastFrameLength := 0
          isReceiving := false
          pendingEscape := false
          timeoutCount := 0
          currentStatus := .decoding
          lastStatus := .decoding
          discarding := false
          badEscape := false
          timeoutLimit := limit.toNat
          initialized := true
          results := s.results ++ [.initDone] }) ∧
    (s.faulted = true → exec (.init limit) s = .next s)

/-- DECODE of an initialized instance that is not faulted completes its entry: `currentStatus` is Decoding (41_decoder R82),
and the chunk is in progress from index 0. That the meaning is the entry alone, with the bytes left to the following steps, is
the model's choice (log entry 1), and so is that an empty chunk returns in the step of its entry (log entry 19). Of the
instance's fields an empty chunk writes `currentStatus` alone (R83, derived). The loop is DecodeRunsItsChunk. -/
def Obligations.DecodeEntersItsChunk : Prop :=
  ∀ (s : State) (chunk : List Byte), s.faulted = false → s.initialized = true →
    exec (.decode chunk) s =
      .next { s with
        currentStatus := .decoding
        rx := chunk
        bytePos := 0
        results := if chunk = [] then s.results ++ [.decodeDone] else s.results }

/-- DECODE as a whole (41_decoder R82): from a state in which the word `0x00000001` with a chunk is the next command of an
initialized instance that is not faulted, the machine's steps run exactly the entry and the byte steps of the chunk, left to
right; then the chunk is exhausted, the index is its length, and the command has returned. That this is one step for the
entry and one for each byte is the model's choice (log entry 1), and so is the step that records the return (log entry
19). Before INIT the command is the usage error and processes no byte. -/
def Obligations.DecodeRunsItsChunk : Prop :=
  ∀ (s : State) (chunk : List Byte) (more : List Input), s.faulted = false → s.rx = [] →
    s.inbox = .command 0x00000001#32 chunk :: more →
    (s.initialized = true →
      steps (1 + chunk.length) s =
        andThen (decodeChunk chunk { s with inbox := more })
          (fun t => .next { t with rx := [], bytePos := chunk.length, results := s.results ++ [.decodeDone] })) ∧
    (s.initialized = false →
      step s = .next { s with inbox := more, faulted := true, events := s.events ++ [.fault .decodeBeforeInit] })

/-- The three usage errors and their cause codes (60_exceptions R124; decisions D4, D5, D21): `faulted` is set, `Fault(cause)`
is emitted, and no other field changes. -/
def Obligations.UsageErrorsAreTaken : Prop :=
  (∀ (s : State) (chunk : List Byte), s.faulted = false → s.initialized = false →
    exec (.decode chunk) s = .next { s with faulted := true, events := s.events ++ [.fault .decodeBeforeInit] }) ∧
  (∀ s : State, s.faulted = false → s.initialized = false →
    exec .tick s = .next { s with faulted := true, events := s.events ++ [.fault .tickBeforeInit] }) ∧
  (∀ (s : State) (n : BitVec 29), s.faulted = false → 5 ≤ n.toNat →
    (n.toNat < 0x100 ∨ 0x100 + s.params.cap ≤ n.toNat) →
    exec (.read n) s = .next { s with faulted := true, events := s.events ++ [.fault .badRegister] }) ∧
  UsageError.decodeBeforeInit.code = 1 ∧ UsageError.tickBeforeInit.code = 2 ∧ UsageError.badRegister.code = 3

/-- Fault entry and the faulted state (60_exceptions R125; decision D5). Entry sets `faulted`, emits `Fault(cause)` and changes
nothing else. In a faulted instance no command or byte step has an effect or a result; ENCODE and ESCAPE do what they do in
any other; and no step of the machine but hardware reset changes a field of the instance or its event trace. -/
def Obligations.FaultedInstanceTakesNoStep : Prop :=
  (∀ (s : State) (u : UsageError), s.raise u = { s with faulted := true, events := s.events ++ [.fault u] }) ∧
  (∀ (s : State) (i : Instr), s.faulted = true → isDecoderStep i = true → exec i s = .next s) ∧
  (∀ (s t : State) (i : Instr), ((∃ payload, i = .encode payload) ∨ ∃ b, i = .escape b) →
    exec i { s with faulted := false } = .next t → exec i { s with faulted := true } = .next { t with faulted := true }) ∧
  (∀ s t : State, s.faulted = true → step s = .next t →
    t = { s with rx := t.rx, bytePos := t.bytePos, inbox := t.inbox, sink := t.sink, results := t.results } ∨
    ∃ more, s.rx = [] ∧ s.inbox = .hardwareReset :: more)

/-! ## The byte steps -/

/-- END completes (41_decoder R85, R86, R87; decisions D7, D8, D12, D23). Outside discard mode the frame is closed and checked,
and a good one is delivered with a copy of its bytes, once; in discard mode the aborted frame ends with no check, no status and
no event. The premise on the count is 10_state R32 item 1. -/
def Obligations.EndClosesAndChecksTheFrame : Prop :=
  ∀ s : State, s.faulted = false →
    (s.discarding = false → s.receivedCount ≤ s.params.cap →
      let frame := (List.range s.receivedCount).map s.bufByte
      (s.badEscape = false ∧ crc16 s.params.crc frame = 0#16 →
        exec .rxEnd s =
          .next { s with
            lastFrameLength := s.receivedCount
            receivedCount := 0
            isReceiving := false
            pendingEscape := false
            badEscape := false
            currentStatus := .success
            lastStatus := .success
            events := s.events ++ [.frameDelivered s.receivedCount frame] }) ∧
      (¬(s.badEscape = false ∧ crc16 s.params.crc frame = 0#16) →
        exec .rxEnd s =
          .next { s with
            lastFrameLength := s.receivedCount
            receivedCount := 0
            isReceiving := false
            pendingEscape := false
            badEscape := false
            currentStatus := .frameError
            lastStatus := .frameError })) ∧
    (s.discarding = true →
      exec .rxEnd s =
        .next { s with
          discarding := false
          isReceiving := false
          receivedCount := 0
          pendingEscape := false
          badEscape := false })

/-- ESC outside discard mode completes: it sets `pendingEscape` and nothing else (41_decoder R90). -/
def Obligations.EscSetsPendingEscape : Prop :=
  ∀ s : State, s.faulted = false → s.discarding = false → exec .rxEsc s = .next { s with pendingEscape := true }

/-- The DATA byte step, outside discard mode, completes (41_decoder R91 to R95; decisions D7, D8, D24). With room in the
buffer: the byte is stored at `receivedCount`, which advances by 1, verbatim with no escape pending, and after an ESC as END
for ESC_END and as ESC for any other, which under `Strict` marks the frame bad unless it is ESC_ESC; the first byte of a frame
resets `timeoutCount` and sets `isReceiving`. With no room, a byte of any row aborts the frame: the instance discards, both
statuses are BufferOverrun, the byte is not stored, `lastFrameLength` and `Buf` stay, no event is emitted; the first-byte part
comes before the check. -/
def Obligations.DataStepStoresOrOverruns : Prop :=
  ∀ s : State, s.faulted = false → s.discarding = false →
    (s.receivedCount < s.params.cap →
      let started : State := { s with
        isReceiving := true
        timeoutCount := if s.isReceiving then s.timeoutCount else 0
        receivedCount := s.receivedCount + 1 }
      (s.pendingEscape = false → ∀ d : Byte, d ≠ 0xC0#8 → d ≠ 0xDB#8 →
        exec (.rxData d) s = .next { started with buf := Memory.write s.buf s.receivedCount d }) ∧
      (s.pendingEscape = true →
        exec .rxDataEscEnd s =
          .next { started with pendingEscape := false, buf := Memory.write s.buf s.receivedCount 0xC0#8 } ∧
        exec .rxDataEscEsc s =
          .next { started with pendingEscape := false, buf := Memory.write s.buf s.receivedCount 0xDB#8 } ∧
        ∀ d : Byte, d ≠ 0xC0#8 → d ≠ 0xDB#8 → d ≠ 0xDC#8 → d ≠ 0xDD#8 →
          exec (.rxDataEscBad d) s = .next { started with
            pendingEscape := false
            buf := Memory.write s.buf s.receivedCount 0xDB#8
            badEscape := s.badEscape || decide (s.params.escapePolicy = .strict) })) ∧
    (s.params.cap ≤ s.receivedCount → ∀ (i : Instr) (b : Byte), dataByteOf i = some b →
      exec i s =
        .next { s with
          isReceiving := true
          timeoutCount := if s.isReceiving then s.timeoutCount else 0
          discarding := true
          receivedCount := 0
          pendingEscape := false
          badEscape := false
          currentStatus := .bufferOverrun
          lastStatus := .bufferOverrun })

/-- Discard mode (41_decoder R97; decision D7): an ESC or a DATA byte of any row is dropped and nothing changes; an END ends
discard mode. -/
def Obligations.DiscardModeDropsBytes : Prop :=
  ∀ s : State, s.discarding = true →
    exec .rxEsc s = .next s ∧ (∀ (i : Instr) (b : Byte), dataByteOf i = some b → exec i s = .next s) ∧
    (s.faulted = false → ∃ t, exec .rxEnd s = .next t ∧ t.discarding = false)

/-- The selection of the byte step: END first, then discard mode, then ESC, then DATA, exactly one arm for each byte
(41_decoder R84, R91; decision D7). -/
def Obligations.ByteStepSelection : Prop :=
  ∀ (s : State) (b : Byte), s.faulted = false →
    byteStep b s =
      if b = 0xC0#8 then endStep s
      else if s.discarding = true then .next s
      else if b = 0xDB#8 then .next { s with pendingEscape := true }
      else .next (dataStep b s)

/-! ## Laws of the decoder -/

/-- Unescape law (40_escape_codec R78, derived): in Idle, with no escape pending and room for `xs`, the byte steps of the
escaped form of `xs` write exactly `xs` from index 0, under both policies, and no other byte of the buffer. -/
def Obligations.UnescapeRecoversTheBytes : Prop :=
  ∀ (s : State) (xs : List Byte), s.faulted = false → s.discarding = false → s.pendingEscape = false →
    s.receivedCount = 0 → xs.length ≤ s.params.cap →
    ∃ t, byteSteps (escapeList xs) s = .next t ∧ t.receivedCount = xs.length ∧ t.pendingEscape = false ∧
      t.badEscape = s.badEscape ∧ (∀ i, i < xs.length → Memory.read t.buf i = xs[i]?) ∧
      (∀ i, xs.length ≤ i → Memory.read t.buf i = Memory.read s.buf i)

/-- Round trip (41_decoder R101, derived): from Idle with no escape pending, DECODE of the whole wire frame of a payload that
fits, in any chunking, delivers exactly one frame, the payload with its trailer, and ends in Idle with Success; where an empty
chunk follows the one that holds the END, `currentStatus` is Decoding again (R83). It holds for the default CRC and for every
function with the residue law. -/
def Obligations.RoundTripDeliversThePayload : Prop :=
  ∀ (s : State) (payload : List Byte) (chunks : List (List Byte)), Inv s → controlState s = .idle →
    s.pendingEscape = false → payload.length + 2 ≤ s.params.cap → chunks.flatten = wire s.params.crc payload →
    ∃ t, decodeChunks chunks s = .next t ∧
      t.events = s.events ++ [.frameDelivered (payload.length + 2) (unescapedFrame s.params.crc payload)] ∧
      t.currentStatus = (if chunks.getLast? = some [] then .decoding else .success) ∧ t.lastStatus = .success ∧
      t.lastFrameLength = payload.length + 2 ∧ controlState t = .idle

/-- A frame that does not fit (41_decoder R101, last sentence, derived; R94, R97, decision D7): the status is BufferOverrun, the
rest is discarded until its END, no event is emitted, `lastFrameLength` stays, and the instance ends in Idle. -/
def Obligations.OversizedFrameIsDiscarded : Prop :=
  ∀ (s : State) (payload : List Byte), Inv s → controlState s = .idle → s.pendingEscape = false →
    s.params.cap < payload.length + 2 →
    ∃ t, decodeChunk (wire s.params.crc payload) s = .next t ∧ t.events = s.events ∧
      t.currentStatus = .bufferOverrun ∧ t.lastStatus = .bufferOverrun ∧ t.lastFrameLength = s.lastFrameLength ∧
      controlState t = .idle

/-- Chunk-boundary independence (41_decoder R100, derived): a byte stream in one DECODE or split at any points into several
leaves the same state, events and buffer included, but for `currentStatus`. -/
def Obligations.ChunkBoundariesDoNotMatter : Prop :=
  ∀ (chunks : List (List Byte)) (s t : State), decodeChunk chunks.flatten s = .next t →
    ∃ u, decodeChunks chunks s = .next u ∧ { u with currentStatus := .decoding } = { t with currentStatus := .decoding }

/-- Status after a DECODE (41_decoder R99, derived): `currentStatus` is the status that the last END step or overrun of the
chunk wrote, or Decoding if none wrote one; `lastStatus` is that same status, or as before if none wrote one; and a status so
written is never Decoding. -/
def Obligations.StatusAfterDecode : Prop :=
  ∀ (chunk : List Byte) (s t : State), decodeChunk chunk s = .next t →
    let written := statusWritten chunk { s with currentStatus := .decoding }
    t.currentStatus = written.getD .decoding ∧ t.lastStatus = written.getD s.lastStatus ∧ written ≠ some .decoding

/-- The transitions of the control state (41_decoder R102, derived from the rules it names; decisions D4, D5, D7). -/
def Obligations.ControlStateTransitions : Prop :=
  ∀ (s t : State) (i : Instr), Inv s → exec i s = .next t →
    (controlState s = .uninitialized → (∃ limit, i = .init limit) → controlState t = .idle) ∧
    (controlState s = .uninitialized → (i = .tick ∨ ∃ chunk, i = .decode chunk) → controlState t = .faulted) ∧
    (controlState s = .idle → (∃ b, dataByteOf i = some b) →
      controlState t = if s.params.cap = 0 then .discarding else .receiving) ∧
    (controlState s = .idle → i = .rxEsc → controlState t = .idle ∧ t.pendingEscape = true) ∧
    (controlState s = .receiving → (∃ b, dataByteOf i = some b) →
      controlState t = if s.receivedCount < s.params.cap then .receiving else .discarding) ∧
    (controlState s = .receiving → i = .rxEsc → controlState t = .receiving) ∧
    (controlState s = .discarding → (i = .rxEsc ∨ ∃ b, dataByteOf i = some b) → controlState t = .discarding) ∧
    (controlState s = .idle ∨ controlState s = .receiving ∨ controlState s = .discarding →
      (i = .rxEnd ∨ ∃ limit, i = .init limit) → controlState t = .idle) ∧
    (controlState s = .idle ∨ controlState s = .receiving ∨ controlState s = .discarding →
      i = .tick → t.events = s.events ++ [.timedOut] → controlState t = .idle)

/-! ## The timeout monitor -/

/-- TICK of an instance that is not faulted completes (42_timeout R103, R104; decisions D9, D12). Before INIT it is the usage
error. After it, a TICK that `Gated` ignores changes nothing and returns false; a counted TICK below the limit counts and
returns false; one that reaches the limit reinitialises, keeps the limit, emits `TimedOut` and returns true. -/
def Obligations.TickCountsOrTimesOut : Prop :=
  ∀ s : State, s.faulted = false →
    (s.initialized = false →
      exec .tick s = .next { s with faulted := true, events := s.events ++ [.fault .tickBeforeInit] }) ∧
    (s.initialized = true → s.params.tickGating = .gated ∧ s.isReceiving = false →
      exec .tick s = .next { s with results := s.results ++ [.ticked false] }) ∧
    (s.initialized = true → s.params.tickGating = .ungated ∨ s.isReceiving = true → s.timeoutCount + 1 < s.timeoutLimit →
      exec .tick s =
        .next { s with timeoutCount := s.timeoutCount + 1, results := s.results ++ [.ticked false] }) ∧
    (s.initialized = true → s.params.tickGating = .ungated ∨ s.isReceiving = true → s.timeoutLimit ≤ s.timeoutCount + 1 →
      exec .tick s =
        .next { s with
          receivedCount := 0
          lastFrameLength := 0
          isReceiving := false
          pendingEscape := false
          timeoutCount := 0
          currentStatus := .decoding
          lastStatus := .decoding
          discarding := false
          badEscape := false
          events := s.events ++ [.timedOut]
          results := s.results ++ [.ticked true] })

/-- With limit `L >= 1` and the count at 0, the first `L - 1` counted TICKs return false and the `L`-th returns true
(42_timeout R106, derived). -/
def Obligations.TheLimitthTickTimesOut : Prop :=
  ∀ s : State, s.faulted = false → s.initialized = true → s.timeoutCount = 0 → 1 ≤ s.timeoutLimit →
    (s.params.tickGating = .ungated ∨ s.isReceiving = true) →
    ∃ t, ticks s.timeoutLimit s = .next t ∧ t.events = s.events ++ [.timedOut] ∧
      t.results = s.results ++ List.replicate (s.timeoutLimit - 1) (.ticked false) ++ [.ticked true]

/-- Timeout recovery (42_timeout R110, derived): from Receiving or Discarding, at most `max(L, 1)` TICKs reinitialise the
instance under both tick policies; it is then Idle, empty, with no escape pending, and meets the invariant, so that
a complete frame decodes (RoundTripDeliversThePayload). -/
def Obligations.TimeoutRecovers : Prop :=
  ∀ s : State, Inv s → (controlState s = .receiving ∨ controlState s = .discarding) →
    ∃ (k : Nat) (t : State), k ≤ max s.timeoutLimit 1 ∧ ticks k s = .next t ∧
      t.events = s.events ++ [.timedOut] ∧ controlState t = .idle ∧ t.receivedCount = 0 ∧ t.pendingEscape = false ∧
      t.timeoutLimit = s.timeoutLimit ∧ Inv t

/-- What the counter measures (42_timeout R107, derived; 10_state R23): a byte step changes `timeoutCount` only when it is
the first DATA byte of a frame, and then sets it to 0. -/
def Obligations.OnlyTheFirstDataByteRestartsTheCount : Prop :=
  ∀ (s t : State) (b : Byte), byteStep b s = .next t →
    t.timeoutCount = s.timeoutCount ∨
    (b ≠ 0xC0#8 ∧ b ≠ 0xDB#8 ∧ s.isReceiving = false ∧ s.discarding = false ∧ t.timeoutCount = 0 ∧ t.isReceiving = true)

/-! ## The register view -/

/-- READ of an instance that is not faulted completes, initialized or not (44_register_read R119; decisions D14, D21). A
register of the map returns its value and nothing else changes; a byte of `Buf` that nothing has written returns some byte, of
which nothing is said, and nothing changes but the model's own count of draws (log entry 6); a number outside the map is
the usage error BadRegister. A count is below 2^32 in every reachable state (log entry 12). -/
def Obligations.ReadReturnsTheRegister : Prop :=
  ∀ s : State, s.faulted = false →
    exec (.read 0#29) s = .next { s with results := s.results ++
      [.value (0#22 ++ BitVec.ofBool false ++ BitVec.ofBool s.initialized ++ BitVec.ofBool s.badEscape ++
        BitVec.ofBool s.discarding ++ BitVec.ofBool s.pendingEscape ++ BitVec.ofBool s.isReceiving ++
        s.lastStatus.code ++ s.currentStatus.code)] } ∧
    exec (.read 1#29) s = .next { s with results := s.results ++ [.value (BitVec.ofNat 32 s.receivedCount)] } ∧
    exec (.read 2#29) s = .next { s with results := s.results ++ [.value (BitVec.ofNat 32 s.lastFrameLength)] } ∧
    exec (.read 3#29) s = .next { s with results := s.results ++ [.value (BitVec.ofNat 32 s.timeoutCount)] } ∧
    exec (.read 4#29) s = .next { s with results := s.results ++ [.value (BitVec.ofNat 32 s.timeoutLimit)] } ∧
    (∀ (n : BitVec 29) (v : Byte), 0x100 ≤ n.toNat → n.toNat < 0x100 + s.params.cap →
      Memory.read s.buf (n.toNat - 0x100) = some v →
      exec (.read n) s = .next { s with results := s.results ++ [.value (v.setWidth 32)] }) ∧
    (∀ n : BitVec 29, 0x100 ≤ n.toNat → n.toNat < 0x100 + s.params.cap → Memory.read s.buf (n.toNat - 0x100) = none →
      ∃ (v : Byte) (t : State), exec (.read n) s = .next t ∧
        t = { s with results := s.results ++ [.value (v.setWidth 32)], draws := t.draws }) ∧
    (∀ n : BitVec 29, 5 ≤ n.toNat → (n.toNat < 0x100 ∨ 0x100 + s.params.cap ≤ n.toNat) →
      exec (.read n) s = .next { s with faulted := true, events := s.events ++ [.fault .badRegister] })

/-- READ of a byte of `Buf` that nothing has written since hardware reset completes with some byte, of which nothing is
said, and uses up a draw, so that the next such read is a fresh one (70_reset R138; decision D13; log entries 5, 6). -/
def Obligations.ReadOfAnUnwrittenByte : Prop :=
  ∀ (s : State) (n : BitVec 29), s.faulted = false → 0x100 ≤ n.toNat → n.toNat < 0x100 + s.params.cap →
    Memory.read s.buf (n.toNat - 0x100) = none →
    ∃ v : Byte, exec (.read n) s =
      .next { s with draws := s.draws + 1, results := s.results ++ [.value (v.setWidth 32)] }

/-- The packing of STATUS, bit by bit, and the status codes (10_state R36, 30_encoding R67; decisions D3, D7, D21). -/
def Obligations.StatusPacking : Prop :=
  Status.decoding.code = 0#2 ∧ Status.success.code = 1#2 ∧ Status.frameError.code = 2#2 ∧
  Status.bufferOverrun.code = 3#2 ∧
  ∀ s : State,
    let v := registerValue s .status
    v.extractLsb' 0 2 = s.currentStatus.code ∧ v.extractLsb' 2 2 = s.lastStatus.code ∧
    v.getLsbD 4 = s.isReceiving ∧ v.getLsbD 5 = s.pendingEscape ∧ v.getLsbD 6 = s.discarding ∧
    v.getLsbD 7 = s.badEscape ∧ v.getLsbD 8 = s.initialized ∧ v.getLsbD 9 = s.faulted ∧
    v.extractLsb' 10 22 = 0#22

/-! ## Frames: what an instruction leaves unchanged -/

/-- ENCODE, ESCAPE and the codec's input classes change no field of the decoder instance, its events, its buffer or its chunk:
only the sink and the results (43_encoder R116, 40_escape_codec R75; decision D15), and ESCAPE and the codec not the sink. -/
def Obligations.EncoderLeavesTheInstanceAlone : Prop :=
  (∀ (payload : List Byte) (s t : State), exec (.encode payload) s = .next t →
    t = { s with sink := t.sink, results := t.results }) ∧
  (∀ (i : Instr) (s t : State),
    (i = .escInEnd ∨ i = .escInEsc ∨ (∃ b, i = .escInPass b) ∨ ∃ b, i = .escape b) → exec i s = .next t →
    t = { s with results := t.results })

/-- The frames of INIT, DECODE, TICK and READ, whether or not they take a usage error. INIT: all but the fields of RESET_FIELDS,
the limit, `initialized` and the results (41_decoder R80, R81). DECODE: all but `currentStatus`, the chunk in progress, the
results, `faulted` and the events. TICK: all but the fields of RESET_FIELDS, the events, the results and `faulted` (42_timeout R103).
READ: all but the results, the draws, `faulted` and the events (44_register_read R119, 10_state R37). `Buf` is unchanged by all. -/
def Obligations.CommandFrames : Prop :=
  (∀ (limit : BitVec 29) (s t : State), exec (.init limit) s = .next t →
    t = { s with
      receivedCount := t.receivedCount
      lastFrameLength := t.lastFrameLength
      isReceiving := t.isReceiving
      pendingEscape := t.pendingEscape
      timeoutCount := t.timeoutCount
      timeoutLimit := t.timeoutLimit
      currentStatus := t.currentStatus
      lastStatus := t.lastStatus
      initialized := t.initialized
      discarding := t.discarding
      badEscape := t.badEscape
      results := t.results }) ∧
  (∀ (chunk : List Byte) (s t : State), exec (.decode chunk) s = .next t →
    t = { s with
      currentStatus := t.currentStatus
      rx := t.rx
      bytePos := t.bytePos
      results := t.results
      faulted := t.faulted
      events := t.events }) ∧
  (∀ s t : State, exec .tick s = .next t →
    t = { s with
      receivedCount := t.receivedCount
      lastFrameLength := t.lastFrameLength
      isReceiving := t.isReceiving
      pendingEscape := t.pendingEscape
      timeoutCount := t.timeoutCount
      currentStatus := t.currentStatus
      lastStatus := t.lastStatus
      discarding := t.discarding
      badEscape := t.badEscape
      faulted := t.faulted
      events := t.events
      results := t.results }) ∧
  (∀ (n : BitVec 29) (s t : State), exec (.read n) s = .next t →
    t = { s with results := t.results, draws := t.draws, faulted := t.faulted, events := t.events })

/-- The frames of the byte steps: END writes no byte of `Buf`; ESC writes `pendingEscape` alone (41_decoder R90); a DATA byte
writes no length, no event, and of `Buf` no byte but the one at `receivedCount` (41_decoder R94, R95; 20_memory R39). No
byte step writes the limit, `initialized`, `faulted`, the chunk, the inbox, the sink, the results or the parameters. -/
def Obligations.ByteStepFrames : Prop :=
  (∀ s t : State, exec .rxEnd s = .next t →
    t = { s with
      lastFrameLength := t.lastFrameLength
      receivedCount := t.receivedCount
      isReceiving := t.isReceiving
      pendingEscape := t.pendingEscape
      discarding := t.discarding
      badEscape := t.badEscape
      currentStatus := t.currentStatus
      lastStatus := t.lastStatus
      events := t.events }) ∧
  (∀ s t : State, exec .rxEsc s = .next t → t = { s with pendingEscape := t.pendingEscape }) ∧
  (∀ (i : Instr) (b : Byte) (s t : State), dataByteOf i = some b → exec i s = .next t →
    t = { s with
      buf := t.buf
      receivedCount := t.receivedCount
      isReceiving := t.isReceiving
      pendingEscape := t.pendingEscape
      timeoutCount := t.timeoutCount
      discarding := t.discarding
      badEscape := t.badEscape
      currentStatus := t.currentStatus
      lastStatus := t.lastStatus } ∧
    ∀ a, a ≠ s.receivedCount → Memory.read t.buf a = Memory.read s.buf a)

/-- Only a DATA byte step writes the buffer (20_memory R39, 10_state R18), and only inside `CAP`: an index at or past `CAP`
reads after any instruction as before it (20_memory R45). -/
def Obligations.OnlyDataStepsWriteTheBuffer : Prop :=
  ∀ (i : Instr) (s t : State), exec i s = .next t →
    (dataByteOf i = none → ∀ a, Memory.read t.buf a = Memory.read s.buf a) ∧
    (∀ a, s.params.cap ≤ a → Memory.read t.buf a = Memory.read s.buf a)

/-- INIT alone writes `timeoutLimit` and sets `initialized` (10_state R24, R27): after any other instruction both are as
before. -/
def Obligations.OnlyInitSetsTheLimit : Prop :=
  ∀ (i : Instr) (s t : State), (∀ limit, i ≠ .init limit) → exec i s = .next t →
    t.timeoutLimit = s.timeoutLimit ∧ t.initialized = s.initialized

/-! ## Invariants and isolation -/

/-- The invariant holds at reset, under the parameters that State.reset carries (10_state R32, derived; log entry 3). -/
def Obligations.InvariantHoldsAtReset : Prop := Inv State.reset

/-- Every step keeps the invariant: the six items of 10_state R32 (derived), the canonical form of the buffer and its bound
(20_memory R45), that the bytes of the frame in progress have been written (70_reset R138), and the rest of `Inv`. -/
def Obligations.EveryStepKeepsTheInvariant : Prop :=
  ∀ s t : State, Inv s → step s = .next t → Inv t

/-- Under the invariant no step faults: the decoder never reaches past `CAP` (20_memory R45, 41_decoder R98, derived). -/
def Obligations.NoStepFaultsUnderTheInvariant : Prop :=
  ∀ (s : State) (r : Fault), Inv s → step s ≠ .fault r

/-- No step writes the parameters: they are fixed for the run (70_reset R140 item 1; log entry 3). -/
def Obligations.ParametersAreFixed : Prop :=
  ∀ s t : State, step s = .next t → t.params = s.params

/-- No READ uses a draw that another READ has used (70_reset R138, "a fresh draw for each read"): the READ of an unwritten
byte completes with the free value of the instance's number, the current draw and the index, whatever that value is, and
advances the count of draws by 1; no step, of an instance or of a block, turns any instance's count back or changes its
number, the reset input included; and the instances of a block have different numbers. The free value, the count and the number
are the model's own (log entries 5, 6, 20), and a block is a list (log entry 16). -/
def Obligations.NoDrawIsUsedTwice : Prop :=
  (∀ (s : State) (n : BitVec 29), s.faulted = false → 0x100 ≤ n.toNat → n.toNat < 0x100 + s.params.cap →
    Memory.read s.buf (n.toNat - 0x100) = none →
    exec (.read n) s = .next { s with
      draws := s.draws + 1
      results := s.results ++
        [.value ((Config.freeByte s.number s.draws (n.toNat - 0x100)).setWidth 32)] }) ∧
  (∀ s t : State, step s = .next t → s.draws ≤ t.draws ∧ t.number = s.number) ∧
  (∀ (k j : Nat) (b after : Block) (s t : State), stepUnit k b = .next after → b.unit j = some s →
    after.unit j = some t → s.draws ≤ t.draws ∧ t.number = s.number) ∧
  ∀ (b : Block) (j k : Nat) (s t : State), b.unit j = some s → b.unit k = some t → s.number = t.number → j = k

/-- While a chunk is in progress a step takes its next byte and no input, and writes neither the limit nor `initialized`: no
INIT, DECODE or TICK falls inside a DECODE (20_memory R46, R52). The model's choice: that the bytes are steps of their own
(log entry 1), that no reset input falls inside (log entry 13), and that no output of the encoder does (log entry 14). That
the return is recorded in the step of the last byte is read from 10_state R34 by the model (log entry 19). -/
def Obligations.NothingFallsInsideADecode : Prop :=
  ∀ s t : State, s.rx ≠ [] → step s = .next t →
    t.inbox = s.inbox ∧ t.rx = s.rx.tail ∧ t.bytePos = s.bytePos + 1 ∧ t.timeoutLimit = s.timeoutLimit ∧
    t.initialized = s.initialized ∧ t.faulted = s.faulted ∧ t.sink = s.sink ∧
    t.results = if s.rx.tail = [] then s.results ++ [.decodeDone] else s.results

/-- Nothing an ENCODE does is seen by a later instruction (10_state R16). After an ENCODE every instruction does what it would
have done without it, and appends the same to the encoder's output and to the results; so it does with any other contents of
those two traces. That they are fields of the state is the model's choice (log entry 7). -/
def Obligations.TheEncodersTracesAreNeverRead : Prop :=
  (∀ (payload : List Byte) (i : Instr) (s u t : State), exec (.encode payload) s = .next u → exec i s = .next t →
    exec i u = .next { t with
      sink := u.sink ++ t.sink.drop s.sink.length
      results := u.results ++ t.results.drop s.results.length }) ∧
  ∀ (i : Instr) (s t : State) (sink : List (List Byte)) (results : List Result), exec i s = .next t →
    exec i { s with sink := sink, results := results } =
      .next { t with
        sink := sink ++ t.sink.drop s.sink.length
        results := results ++ t.results.drop s.results.length }

/-- Unwritten bytes reach the host only through READ (70_reset R138, decision D13 and derived): under the invariant, no other
instruction depends on the free values, whichever draw the machine is at and whichever instance it is. -/
def Obligations.FreeValuesReachOnlyRead : Prop :=
  ∀ (i : Instr) (s t : State) (draws number : Nat), Inv s → (∀ n, i ≠ .read n) → exec i s = .next t →
    exec i { s with draws := draws, number := number } = .next { t with draws := draws, number := number }

/-- Instances share nothing (60_exceptions R134, 20_memory R50). Every instance runs under the block's parameters, so that
`CRC16` is one for all. A step of one that takes no reset input is its own step, and every other instance's state, traces and
inputs stay as they were. Several instances as a list of states, each with a trace of its own for the encoder's
output, is the model's choice (log entry 16), and so is the instance's number (log entry 20). -/
def Obligations.InstancesShareNothing : Prop :=
  ∀ (k : Nat) (b : Block) (s : State), b.unit k = some s →
    s.params = b.params ∧
    (¬(s.rx = [] ∧ ∃ more, s.inbox = .hardwareReset :: more) → ∀ after, stepUnit k b = .next after →
      (∃ t, step s = .next t ∧ after.unit k = some t) ∧ after.params = b.params ∧
      ∀ j, j ≠ k → after.unit j = b.unit j)
end

