-- ==== Sys2Proof/Laws/Wire.lean ====
section
/-! SUPPORT. The wire constants as literals, and what the escape codec answers for each class of byte. -/

namespace Sys2Proof

@[simp] theorem wireEnd_eq : wireEnd = 0xC0#8 := rfl
@[simp] theorem wireEsc_eq : wireEsc = 0xDB#8 := rfl
@[simp] theorem wireEscEnd_eq : wireEscEnd = 0xDC#8 := rfl
@[simp] theorem wireEscEsc_eq : wireEscEsc = 0xDD#8 := rfl

namespace Machine

@[simp] theorem escapeByte_end : escapeByte 0xC0#8 = [0xDB#8, 0xDC#8] := rfl
@[simp] theorem escapeByte_esc : escapeByte 0xDB#8 = [0xDB#8, 0xDD#8] := rfl
theorem escapeByte_other {b : Byte} (h1 : b ≠ 0xC0#8) (h2 : b ≠ 0xDB#8) : escapeByte b = [b] := by
  simp [escapeByte, h1, h2]

/-- The three classes of 40_escape_codec R74. -/
theorem escapeByte_cases (b : Byte) :
    (b = 0xC0#8 ∧ escapeByte b = [0xDB#8, 0xDC#8]) ∨ (b = 0xDB#8 ∧ escapeByte b = [0xDB#8, 0xDD#8]) ∨
    (b ≠ 0xC0#8 ∧ b ≠ 0xDB#8 ∧ escapeByte b = [b]) := by
  by_cases h1 : b = 0xC0#8
  · subst h1; exact .inl ⟨rfl, rfl⟩
  · by_cases h2 : b = 0xDB#8
    · subst h2; exact .inr (.inl ⟨rfl, rfl⟩)
    · exact .inr (.inr ⟨h1, h2, escapeByte_other h1 h2⟩)

@[simp] theorem escapeList_nil : escapeList [] = [] := rfl
@[simp] theorem escapeList_cons (b : Byte) (xs : List Byte) : escapeList (b :: xs) = escapeByte b ++ escapeList xs := rfl
theorem escapeList_append (xs ys : List Byte) : escapeList (xs ++ ys) = escapeList xs ++ escapeList ys := by
  simp [escapeList]

end Machine

end Sys2Proof
end

