-- ==== Sys2Proof/Laws/Decode.lean ====
section
/-! SUPPORT. The fields of a command word, and what a command without a byte list decodes to. -/

namespace Sys2Proof

@[simp] theorem opField_commandWord (operand : BitVec 29) (op : BitVec 3) : opField (commandWord operand op) = op := by
  unfold opField commandWord
  exact BitVec.extractLsb'_append_eq_right

@[simp] theorem operandField_commandWord (operand : BitVec 29) (op : BitVec 3) :
    operandField (commandWord operand op) = operand := by
  unfold operandField commandWord
  exact BitVec.extractLsb'_append_eq_left

/-- A word is its two fields. -/
theorem commandWord_fields (w : Word) : commandWord (operandField w) (opField w) = w := by
  unfold operandField opField commandWord
  rw [BitVec.extractLsb'_append_extractLsb'_eq_extractLsb' (by rfl)]
  simp

/-- A command that takes no byte list is decoded exactly when its unused bits are 0 and no list stands behind it. -/
theorem plainCommand_ok {unusedZero : Bool} {bytes : List Byte} {i j : Instr} :
    plainCommand unusedZero bytes i = .ok j ↔ unusedZero = true ∧ bytes = [] ∧ j = i := by
  unfold plainCommand
  split
  · simp_all
  · split <;> simp_all [eq_comm]

end Sys2Proof
end

