-- ==== Sys2Proof/Laws/State.lean ====
section
/-! SUPPORT. One lemma per field for each update of the state, so that no proof unfolds a record update. -/

namespace Sys2Proof.Machine

@[simp] theorem State.emit_params (s : State) (e : Event) : (s.emit e).params = s.params := rfl
@[simp] theorem State.emit_buf (s : State) (e : Event) : (s.emit e).buf = s.buf := rfl
@[simp] theorem State.emit_receivedCount (s : State) (e : Event) : (s.emit e).receivedCount = s.receivedCount := rfl
@[simp] theorem State.emit_lastFrameLength (s : State) (e : Event) : (s.emit e).lastFrameLength = s.lastFrameLength := rfl
@[simp] theorem State.emit_isReceiving (s : State) (e : Event) : (s.emit e).isReceiving = s.isReceiving := rfl
@[simp] theorem State.emit_pendingEscape (s : State) (e : Event) : (s.emit e).pendingEscape = s.pendingEscape := rfl
@[simp] theorem State.emit_timeoutCount (s : State) (e : Event) : (s.emit e).timeoutCount = s.timeoutCount := rfl
@[simp] theorem State.emit_timeoutLimit (s : State) (e : Event) : (s.emit e).timeoutLimit = s.timeoutLimit := rfl
@[simp] theorem State.emit_currentStatus (s : State) (e : Event) : (s.emit e).currentStatus = s.currentStatus := rfl
@[simp] theorem State.emit_lastStatus (s : State) (e : Event) : (s.emit e).lastStatus = s.lastStatus := rfl
@[simp] theorem State.emit_initialized (s : State) (e : Event) : (s.emit e).initialized = s.initialized := rfl
@[simp] theorem State.emit_faulted (s : State) (e : Event) : (s.emit e).faulted = s.faulted := rfl
@[simp] theorem State.emit_discarding (s : State) (e : Event) : (s.emit e).discarding = s.discarding := rfl
@[simp] theorem State.emit_badEscape (s : State) (e : Event) : (s.emit e).badEscape = s.badEscape := rfl
@[simp] theorem State.emit_rx (s : State) (e : Event) : (s.emit e).rx = s.rx := rfl
@[simp] theorem State.emit_bytePos (s : State) (e : Event) : (s.emit e).bytePos = s.bytePos := rfl
@[simp] theorem State.emit_inbox (s : State) (e : Event) : (s.emit e).inbox = s.inbox := rfl
@[simp] theorem State.emit_events (s : State) (e : Event) : (s.emit e).events = s.events ++ [e] := rfl
@[simp] theorem State.emit_sink (s : State) (e : Event) : (s.emit e).sink = s.sink := rfl
@[simp] theorem State.emit_results (s : State) (e : Event) : (s.emit e).results = s.results := rfl
@[simp] theorem State.emit_draws (s : State) (e : Event) : (s.emit e).draws = s.draws := rfl
@[simp] theorem State.emit_number (s : State) (e : Event) : (s.emit e).number = s.number := rfl

@[simp] theorem State.giveResult_params (s : State) (r : Result) : (s.giveResult r).params = s.params := rfl
@[simp] theorem State.giveResult_buf (s : State) (r : Result) : (s.giveResult r).buf = s.buf := rfl
@[simp] theorem State.giveResult_receivedCount (s : State) (r : Result) : (s.giveResult r).receivedCount = s.receivedCount := rfl
@[simp] theorem State.giveResult_lastFrameLength (s : State) (r : Result) : (s.giveResult r).lastFrameLength = s.lastFrameLength := rfl
@[simp] theorem State.giveResult_isReceiving (s : State) (r : Result) : (s.giveResult r).isReceiving = s.isReceiving := rfl
@[simp] theorem State.giveResult_pendingEscape (s : State) (r : Result) : (s.giveResult r).pendingEscape = s.pendingEscape := rfl
@[simp] theorem State.giveResult_timeoutCount (s : State) (r : Result) : (s.giveResult r).timeoutCount = s.timeoutCount := rfl
@[simp] theorem State.giveResult_timeoutLimit (s : State) (r : Result) : (s.giveResult r).timeoutLimit = s.timeoutLimit := rfl
@[simp] theorem State.giveResult_currentStatus (s : State) (r : Result) : (s.giveResult r).currentStatus = s.currentStatus := rfl
@[simp] theorem State.giveResult_lastStatus (s : State) (r : Result) : (s.giveResult r).lastStatus = s.lastStatus := rfl
@[simp] theorem State.giveResult_initialized (s : State) (r : Result) : (s.giveResult r).initialized = s.initialized := rfl
@[simp] theorem State.giveResult_faulted (s : State) (r : Result) : (s.giveResult r).faulted = s.faulted := rfl
@[simp] theorem State.giveResult_discarding (s : State) (r : Result) : (s.giveResult r).discarding = s.discarding := rfl
@[simp] theorem State.giveResult_badEscape (s : State) (r : Result) : (s.giveResult r).badEscape = s.badEscape := rfl
@[simp] theorem State.giveResult_rx (s : State) (r : Result) : (s.giveResult r).rx = s.rx := rfl
@[simp] theorem State.giveResult_bytePos (s : State) (r : Result) : (s.giveResult r).bytePos = s.bytePos := rfl
@[simp] theorem State.giveResult_inbox (s : State) (r : Result) : (s.giveResult r).inbox = s.inbox := rfl
@[simp] theorem State.giveResult_events (s : State) (r : Result) : (s.giveResult r).events = s.events := rfl
@[simp] theorem State.giveResult_sink (s : State) (r : Result) : (s.giveResult r).sink = s.sink := rfl
@[simp] theorem State.giveResult_results (s : State) (r : Result) : (s.giveResult r).results = s.results ++ [r] := rfl
@[simp] theorem State.giveResult_draws (s : State) (r : Result) : (s.giveResult r).draws = s.draws := rfl
@[simp] theorem State.giveResult_number (s : State) (r : Result) : (s.giveResult r).number = s.number := rfl

@[simp] theorem State.sendGroups_params (s : State) (groups : List (List Byte)) : (s.sendGroups groups).params = s.params := rfl
@[simp] theorem State.sendGroups_buf (s : State) (groups : List (List Byte)) : (s.sendGroups groups).buf = s.buf := rfl
@[simp] theorem State.sendGroups_receivedCount (s : State) (groups : List (List Byte)) : (s.sendGroups groups).receivedCount = s.receivedCount := rfl
@[simp] theorem State.sendGroups_lastFrameLength (s : State) (groups : List (List Byte)) : (s.sendGroups groups).lastFrameLength = s.lastFrameLength := rfl
@[simp] theorem State.sendGroups_isReceiving (s : State) (groups : List (List Byte)) : (s.sendGroups groups).isReceiving = s.isReceiving := rfl
@[simp] theorem State.sendGroups_pendingEscape (s : State) (groups : List (List Byte)) : (s.sendGroups groups).pendingEscape = s.pendingEscape := rfl
@[simp] theorem State.sendGroups_timeoutCount (s : State) (groups : List (List Byte)) : (s.sendGroups groups).timeoutCount = s.timeoutCount := rfl
@[simp] theorem State.sendGroups_timeoutLimit (s : State) (groups : List (List Byte)) : (s.sendGroups groups).timeoutLimit = s.timeoutLimit := rfl
@[simp] theorem State.sendGroups_currentStatus (s : State) (groups : List (List Byte)) : (s.sendGroups groups).currentStatus = s.currentStatus := rfl
@[simp] theorem State.sendGroups_lastStatus (s : State) (groups : List (List Byte)) : (s.sendGroups groups).lastStatus = s.lastStatus := rfl
@[simp] theorem State.sendGroups_initialized (s : State) (groups : List (List Byte)) : (s.sendGroups groups).initialized = s.initialized := rfl
@[simp] theorem State.sendGroups_faulted (s : State) (groups : List (List Byte)) : (s.sendGroups groups).faulted = s.faulted := rfl
@[simp] theorem State.sendGroups_discarding (s : State) (groups : List (List Byte)) : (s.sendGroups groups).discarding = s.discarding := rfl
@[simp] theorem State.sendGroups_badEscape (s : State) (groups : List (List Byte)) : (s.sendGroups groups).badEscape = s.badEscape := rfl
@[simp] theorem State.sendGroups_rx (s : State) (groups : List (List Byte)) : (s.sendGroups groups).rx = s.rx := rfl
@[simp] theorem State.sendGroups_bytePos (s : State) (groups : List (List Byte)) : (s.sendGroups groups).bytePos = s.bytePos := rfl
@[simp] theorem State.sendGroups_inbox (s : State) (groups : List (List Byte)) : (s.sendGroups groups).inbox = s.inbox := rfl
@[simp] theorem State.sendGroups_events (s : State) (groups : List (List Byte)) : (s.sendGroups groups).events = s.events := rfl
@[simp] theorem State.sendGroups_sink (s : State) (groups : List (List Byte)) : (s.sendGroups groups).sink = s.sink ++ groups := rfl
@[simp] theorem State.sendGroups_results (s : State) (groups : List (List Byte)) : (s.sendGroups groups).results = s.results := rfl
@[simp] theorem State.sendGroups_draws (s : State) (groups : List (List Byte)) : (s.sendGroups groups).draws = s.draws := rfl
@[simp] theorem State.sendGroups_number (s : State) (groups : List (List Byte)) : (s.sendGroups groups).number = s.number := rfl

@[simp] theorem State.raise_params (s : State) (u : UsageError) : (s.raise u).params = s.params := rfl
@[simp] theorem State.raise_buf (s : State) (u : UsageError) : (s.raise u).buf = s.buf := rfl
@[simp] theorem State.raise_receivedCount (s : State) (u : UsageError) : (s.raise u).receivedCount = s.receivedCount := rfl
@[simp] theorem State.raise_lastFrameLength (s : State) (u : UsageError) : (s.raise u).lastFrameLength = s.lastFrameLength := rfl
@[simp] theorem State.raise_isReceiving (s : State) (u : UsageError) : (s.raise u).isReceiving = s.isReceiving := rfl
@[simp] theorem State.raise_pendingEscape (s : State) (u : UsageError) : (s.raise u).pendingEscape = s.pendingEscape := rfl
@[simp] theorem State.raise_timeoutCount (s : State) (u : UsageError) : (s.raise u).timeoutCount = s.timeoutCount := rfl
@[simp] theorem State.raise_timeoutLimit (s : State) (u : UsageError) : (s.raise u).timeoutLimit = s.timeoutLimit := rfl
@[simp] theorem State.raise_currentStatus (s : State) (u : UsageError) : (s.raise u).currentStatus = s.currentStatus := rfl
@[simp] theorem State.raise_lastStatus (s : State) (u : UsageError) : (s.raise u).lastStatus = s.lastStatus := rfl
@[simp] theorem State.raise_initialized (s : State) (u : UsageError) : (s.raise u).initialized = s.initialized := rfl
@[simp] theorem State.raise_faulted (s : State) (u : UsageError) : (s.raise u).faulted = true := rfl
@[simp] theorem State.raise_discarding (s : State) (u : UsageError) : (s.raise u).discarding = s.discarding := rfl
@[simp] theorem State.raise_badEscape (s : State) (u : UsageError) : (s.raise u).badEscape = s.badEscape := rfl
@[simp] theorem State.raise_rx (s : State) (u : UsageError) : (s.raise u).rx = s.rx := rfl
@[simp] theorem State.raise_bytePos (s : State) (u : UsageError) : (s.raise u).bytePos = s.bytePos := rfl
@[simp] theorem State.raise_inbox (s : State) (u : UsageError) : (s.raise u).inbox = s.inbox := rfl
@[simp] theorem State.raise_events (s : State) (u : UsageError) : (s.raise u).events = s.events ++ [.fault u] := rfl
@[simp] theorem State.raise_sink (s : State) (u : UsageError) : (s.raise u).sink = s.sink := rfl
@[simp] theorem State.raise_results (s : State) (u : UsageError) : (s.raise u).results = s.results := rfl
@[simp] theorem State.raise_draws (s : State) (u : UsageError) : (s.raise u).draws = s.draws := rfl
@[simp] theorem State.raise_number (s : State) (u : UsageError) : (s.raise u).number = s.number := rfl

@[simp] theorem State.resetFields_params (s : State) : s.resetFields.params = s.params := rfl
@[simp] theorem State.resetFields_buf (s : State) : s.resetFields.buf = s.buf := rfl
@[simp] theorem State.resetFields_receivedCount (s : State) : s.resetFields.receivedCount = 0 := rfl
@[simp] theorem State.resetFields_lastFrameLength (s : State) : s.resetFields.lastFrameLength = 0 := rfl
@[simp] theorem State.resetFields_isReceiving (s : State) : s.resetFields.isReceiving = false := rfl
@[simp] theorem State.resetFields_pendingEscape (s : State) : s.resetFields.pendingEscape = false := rfl
@[simp] theorem State.resetFields_timeoutCount (s : State) : s.resetFields.timeoutCount = 0 := rfl
@[simp] theorem State.resetFields_timeoutLimit (s : State) : s.resetFields.timeoutLimit = s.timeoutLimit := rfl
@[simp] theorem State.resetFields_currentStatus (s : State) : s.resetFields.currentStatus = .decoding := rfl
@[simp] theorem State.resetFields_lastStatus (s : State) : s.resetFields.lastStatus = .decoding := rfl
@[simp] theorem State.resetFields_initialized (s : State) : s.resetFields.initialized = s.initialized := rfl
@[simp] theorem State.resetFields_faulted (s : State) : s.resetFields.faulted = s.faulted := rfl
@[simp] theorem State.resetFields_discarding (s : State) : s.resetFields.discarding = false := rfl
@[simp] theorem State.resetFields_badEscape (s : State) : s.resetFields.badEscape = false := rfl
@[simp] theorem State.resetFields_rx (s : State) : s.resetFields.rx = s.rx := rfl
@[simp] theorem State.resetFields_bytePos (s : State) : s.resetFields.bytePos = s.bytePos := rfl
@[simp] theorem State.resetFields_inbox (s : State) : s.resetFields.inbox = s.inbox := rfl
@[simp] theorem State.resetFields_events (s : State) : s.resetFields.events = s.events := rfl
@[simp] theorem State.resetFields_sink (s : State) : s.resetFields.sink = s.sink := rfl
@[simp] theorem State.resetFields_results (s : State) : s.resetFields.results = s.results := rfl
@[simp] theorem State.resetFields_draws (s : State) : s.resetFields.draws = s.draws := rfl
@[simp] theorem State.resetFields_number (s : State) : s.resetFields.number = s.number := rfl

@[simp] theorem State.openChunk_params (s : State) (chunk : List Byte) : (s.openChunk chunk).params = s.params := rfl
@[simp] theorem State.openChunk_buf (s : State) (chunk : List Byte) : (s.openChunk chunk).buf = s.buf := rfl
@[simp] theorem State.openChunk_receivedCount (s : State) (chunk : List Byte) : (s.openChunk chunk).receivedCount = s.receivedCount := rfl
@[simp] theorem State.openChunk_lastFrameLength (s : State) (chunk : List Byte) : (s.openChunk chunk).lastFrameLength = s.lastFrameLength := rfl
@[simp] theorem State.openChunk_isReceiving (s : State) (chunk : List Byte) : (s.openChunk chunk).isReceiving = s.isReceiving := rfl
@[simp] theorem State.openChunk_pendingEscape (s : State) (chunk : List Byte) : (s.openChunk chunk).pendingEscape = s.pendingEscape := rfl
@[simp] theorem State.openChunk_timeoutCount (s : State) (chunk : List Byte) : (s.openChunk chunk).timeoutCount = s.timeoutCount := rfl
@[simp] theorem State.openChunk_timeoutLimit (s : State) (chunk : List Byte) : (s.openChunk chunk).timeoutLimit = s.timeoutLimit := rfl
@[simp] theorem State.openChunk_currentStatus (s : State) (chunk : List Byte) : (s.openChunk chunk).currentStatus = s.currentStatus := rfl
@[simp] theorem State.openChunk_lastStatus (s : State) (chunk : List Byte) : (s.openChunk chunk).lastStatus = s.lastStatus := rfl
@[simp] theorem State.openChunk_initialized (s : State) (chunk : List Byte) : (s.openChunk chunk).initialized = s.initialized := rfl
@[simp] theorem State.openChunk_faulted (s : State) (chunk : List Byte) : (s.openChunk chunk).faulted = s.faulted := rfl
@[simp] theorem State.openChunk_discarding (s : State) (chunk : List Byte) : (s.openChunk chunk).discarding = s.discarding := rfl
@[simp] theorem State.openChunk_badEscape (s : State) (chunk : List Byte) : (s.openChunk chunk).badEscape = s.badEscape := rfl
@[simp] theorem State.openChunk_rx (s : State) (chunk : List Byte) : (s.openChunk chunk).rx = chunk := rfl
@[simp] theorem State.openChunk_bytePos (s : State) (chunk : List Byte) : (s.openChunk chunk).bytePos = 0 := rfl
@[simp] theorem State.openChunk_inbox (s : State) (chunk : List Byte) : (s.openChunk chunk).inbox = s.inbox := rfl
@[simp] theorem State.openChunk_events (s : State) (chunk : List Byte) : (s.openChunk chunk).events = s.events := rfl
@[simp] theorem State.openChunk_sink (s : State) (chunk : List Byte) : (s.openChunk chunk).sink = s.sink := rfl
@[simp] theorem State.openChunk_results (s : State) (chunk : List Byte) : (s.openChunk chunk).results = if chunk = [] then s.results ++ [.decodeDone] else s.results := rfl
@[simp] theorem State.openChunk_draws (s : State) (chunk : List Byte) : (s.openChunk chunk).draws = s.draws := rfl
@[simp] theorem State.openChunk_number (s : State) (chunk : List Byte) : (s.openChunk chunk).number = s.number := rfl

@[simp] theorem State.endDiscard_params (s : State) : s.endDiscard.params = s.params := rfl
@[simp] theorem State.endDiscard_buf (s : State) : s.endDiscard.buf = s.buf := rfl
@[simp] theorem State.endDiscard_receivedCount (s : State) : s.endDiscard.receivedCount = 0 := rfl
@[simp] theorem State.endDiscard_lastFrameLength (s : State) : s.endDiscard.lastFrameLength = s.lastFrameLength := rfl
@[simp] theorem State.endDiscard_isReceiving (s : State) : s.endDiscard.isReceiving = false := rfl
@[simp] theorem State.endDiscard_pendingEscape (s : State) : s.endDiscard.pendingEscape = false := rfl
@[simp] theorem State.endDiscard_timeoutCount (s : State) : s.endDiscard.timeoutCount = s.timeoutCount := rfl
@[simp] theorem State.endDiscard_timeoutLimit (s : State) : s.endDiscard.timeoutLimit = s.timeoutLimit := rfl
@[simp] theorem State.endDiscard_currentStatus (s : State) : s.endDiscard.currentStatus = s.currentStatus := rfl
@[simp] theorem State.endDiscard_lastStatus (s : State) : s.endDiscard.lastStatus = s.lastStatus := rfl
@[simp] theorem State.endDiscard_initialized (s : State) : s.endDiscard.initialized = s.initialized := rfl
@[simp] theorem State.endDiscard_faulted (s : State) : s.endDiscard.faulted = s.faulted := rfl
@[simp] theorem State.endDiscard_discarding (s : State) : s.endDiscard.discarding = false := rfl
@[simp] theorem State.endDiscard_badEscape (s : State) : s.endDiscard.badEscape = false := rfl
@[simp] theorem State.endDiscard_rx (s : State) : s.endDiscard.rx = s.rx := rfl
@[simp] theorem State.endDiscard_bytePos (s : State) : s.endDiscard.bytePos = s.bytePos := rfl
@[simp] theorem State.endDiscard_inbox (s : State) : s.endDiscard.inbox = s.inbox := rfl
@[simp] theorem State.endDiscard_events (s : State) : s.endDiscard.events = s.events := rfl
@[simp] theorem State.endDiscard_sink (s : State) : s.endDiscard.sink = s.sink := rfl
@[simp] theorem State.endDiscard_results (s : State) : s.endDiscard.results = s.results := rfl
@[simp] theorem State.endDiscard_draws (s : State) : s.endDiscard.draws = s.draws := rfl
@[simp] theorem State.endDiscard_number (s : State) : s.endDiscard.number = s.number := rfl

@[simp] theorem State.closeFrame_params (s : State) : s.closeFrame.params = s.params := rfl
@[simp] theorem State.closeFrame_buf (s : State) : s.closeFrame.buf = s.buf := rfl
@[simp] theorem State.closeFrame_receivedCount (s : State) : s.closeFrame.receivedCount = 0 := rfl
@[simp] theorem State.closeFrame_lastFrameLength (s : State) : s.closeFrame.lastFrameLength = s.receivedCount := rfl
@[simp] theorem State.closeFrame_isReceiving (s : State) : s.closeFrame.isReceiving = false := rfl
@[simp] theorem State.closeFrame_pendingEscape (s : State) : s.closeFrame.pendingEscape = false := rfl
@[simp] theorem State.closeFrame_timeoutCount (s : State) : s.closeFrame.timeoutCount = s.timeoutCount := rfl
@[simp] theorem State.closeFrame_timeoutLimit (s : State) : s.closeFrame.timeoutLimit = s.timeoutLimit := rfl
@[simp] theorem State.closeFrame_currentStatus (s : State) : s.closeFrame.currentStatus = s.currentStatus := rfl
@[simp] theorem State.closeFrame_lastStatus (s : State) : s.closeFrame.lastStatus = s.lastStatus := rfl
@[simp] theorem State.closeFrame_initialized (s : State) : s.closeFrame.initialized = s.initialized := rfl
@[simp] theorem State.closeFrame_faulted (s : State) : s.closeFrame.faulted = s.faulted := rfl
@[simp] theorem State.closeFrame_discarding (s : State) : s.closeFrame.discarding = s.discarding := rfl
@[simp] theorem State.closeFrame_badEscape (s : State) : s.closeFrame.badEscape = s.badEscape := rfl
@[simp] theorem State.closeFrame_rx (s : State) : s.closeFrame.rx = s.rx := rfl
@[simp] theorem State.closeFrame_bytePos (s : State) : s.closeFrame.bytePos = s.bytePos := rfl
@[simp] theorem State.closeFrame_inbox (s : State) : s.closeFrame.inbox = s.inbox := rfl
@[simp] theorem State.closeFrame_events (s : State) : s.closeFrame.events = s.events := rfl
@[simp] theorem State.closeFrame_sink (s : State) : s.closeFrame.sink = s.sink := rfl
@[simp] theorem State.closeFrame_results (s : State) : s.closeFrame.results = s.results := rfl
@[simp] theorem State.closeFrame_draws (s : State) : s.closeFrame.draws = s.draws := rfl
@[simp] theorem State.closeFrame_number (s : State) : s.closeFrame.number = s.number := rfl

@[simp] theorem State.recordVerdict_params (s : State) (v : Status) (frame : List Byte) : (s.recordVerdict v frame).params = s.params := rfl
@[simp] theorem State.recordVerdict_buf (s : State) (v : Status) (frame : List Byte) : (s.recordVerdict v frame).buf = s.buf := rfl
@[simp] theorem State.recordVerdict_receivedCount (s : State) (v : Status) (frame : List Byte) : (s.recordVerdict v frame).receivedCount = s.receivedCount := rfl
@[simp] theorem State.recordVerdict_lastFrameLength (s : State) (v : Status) (frame : List Byte) : (s.recordVerdict v frame).lastFrameLength = s.lastFrameLength := rfl
@[simp] theorem State.recordVerdict_isReceiving (s : State) (v : Status) (frame : List Byte) : (s.recordVerdict v frame).isReceiving = s.isReceiving := rfl
@[simp] theorem State.recordVerdict_pendingEscape (s : State) (v : Status) (frame : List Byte) : (s.recordVerdict v frame).pendingEscape = s.pendingEscape := rfl
@[simp] theorem State.recordVerdict_timeoutCount (s : State) (v : Status) (frame : List Byte) : (s.recordVerdict v frame).timeoutCount = s.timeoutCount := rfl
@[simp] theorem State.recordVerdict_timeoutLimit (s : State) (v : Status) (frame : List Byte) : (s.recordVerdict v frame).timeoutLimit = s.timeoutLimit := rfl
@[simp] theorem State.recordVerdict_currentStatus (s : State) (v : Status) (frame : List Byte) : (s.recordVerdict v frame).currentStatus = v := rfl
@[simp] theorem State.recordVerdict_lastStatus (s : State) (v : Status) (frame : List Byte) : (s.recordVerdict v frame).lastStatus = v := rfl
@[simp] theorem State.recordVerdict_initialized (s : State) (v : Status) (frame : List Byte) : (s.recordVerdict v frame).initialized = s.initialized := rfl
@[simp] theorem State.recordVerdict_faulted (s : State) (v : Status) (frame : List Byte) : (s.recordVerdict v frame).faulted = s.faulted := rfl
@[simp] theorem State.recordVerdict_discarding (s : State) (v : Status) (frame : List Byte) : (s.recordVerdict v frame).discarding = s.discarding := rfl
@[simp] theorem State.recordVerdict_badEscape (s : State) (v : Status) (frame : List Byte) : (s.recordVerdict v frame).badEscape = false := rfl
@[simp] theorem State.recordVerdict_rx (s : State) (v : Status) (frame : List Byte) : (s.recordVerdict v frame).rx = s.rx := rfl
@[simp] theorem State.recordVerdict_bytePos (s : State) (v : Status) (frame : List Byte) : (s.recordVerdict v frame).bytePos = s.bytePos := rfl
@[simp] theorem State.recordVerdict_inbox (s : State) (v : Status) (frame : List Byte) : (s.recordVerdict v frame).inbox = s.inbox := rfl
@[simp] theorem State.recordVerdict_events (s : State) (v : Status) (frame : List Byte) : (s.recordVerdict v frame).events = if v = .success then s.events ++ [.frameDelivered s.lastFrameLength frame] else s.events := rfl
@[simp] theorem State.recordVerdict_sink (s : State) (v : Status) (frame : List Byte) : (s.recordVerdict v frame).sink = s.sink := rfl
@[simp] theorem State.recordVerdict_results (s : State) (v : Status) (frame : List Byte) : (s.recordVerdict v frame).results = s.results := rfl
@[simp] theorem State.recordVerdict_draws (s : State) (v : Status) (frame : List Byte) : (s.recordVerdict v frame).draws = s.draws := rfl
@[simp] theorem State.recordVerdict_number (s : State) (v : Status) (frame : List Byte) : (s.recordVerdict v frame).number = s.number := rfl

@[simp] theorem State.resolveEscape_params (s : State) (b : Byte) : (s.resolveEscape b).params = s.params := rfl
@[simp] theorem State.resolveEscape_buf (s : State) (b : Byte) : (s.resolveEscape b).buf = s.buf := rfl
@[simp] theorem State.resolveEscape_receivedCount (s : State) (b : Byte) : (s.resolveEscape b).receivedCount = s.receivedCount := rfl
@[simp] theorem State.resolveEscape_lastFrameLength (s : State) (b : Byte) : (s.resolveEscape b).lastFrameLength = s.lastFrameLength := rfl
@[simp] theorem State.resolveEscape_isReceiving (s : State) (b : Byte) : (s.resolveEscape b).isReceiving = s.isReceiving := rfl
@[simp] theorem State.resolveEscape_pendingEscape (s : State) (b : Byte) : (s.resolveEscape b).pendingEscape = false := rfl
@[simp] theorem State.resolveEscape_timeoutCount (s : State) (b : Byte) : (s.resolveEscape b).timeoutCount = s.timeoutCount := rfl
@[simp] theorem State.resolveEscape_timeoutLimit (s : State) (b : Byte) : (s.resolveEscape b).timeoutLimit = s.timeoutLimit := rfl
@[simp] theorem State.resolveEscape_currentStatus (s : State) (b : Byte) : (s.resolveEscape b).currentStatus = s.currentStatus := rfl
@[simp] theorem State.resolveEscape_lastStatus (s : State) (b : Byte) : (s.resolveEscape b).lastStatus = s.lastStatus := rfl
@[simp] theorem State.resolveEscape_initialized (s : State) (b : Byte) : (s.resolveEscape b).initialized = s.initialized := rfl
@[simp] theorem State.resolveEscape_faulted (s : State) (b : Byte) : (s.resolveEscape b).faulted = s.faulted := rfl
@[simp] theorem State.resolveEscape_discarding (s : State) (b : Byte) : (s.resolveEscape b).discarding = s.discarding := rfl
@[simp] theorem State.resolveEscape_badEscape (s : State) (b : Byte) : (s.resolveEscape b).badEscape = (s.badEscape || malformedEscape s b) := rfl
@[simp] theorem State.resolveEscape_rx (s : State) (b : Byte) : (s.resolveEscape b).rx = s.rx := rfl
@[simp] theorem State.resolveEscape_bytePos (s : State) (b : Byte) : (s.resolveEscape b).bytePos = s.bytePos := rfl
@[simp] theorem State.resolveEscape_inbox (s : State) (b : Byte) : (s.resolveEscape b).inbox = s.inbox := rfl
@[simp] theorem State.resolveEscape_events (s : State) (b : Byte) : (s.resolveEscape b).events = s.events := rfl
@[simp] theorem State.resolveEscape_sink (s : State) (b : Byte) : (s.resolveEscape b).sink = s.sink := rfl
@[simp] theorem State.resolveEscape_results (s : State) (b : Byte) : (s.resolveEscape b).results = s.results := rfl
@[simp] theorem State.resolveEscape_draws (s : State) (b : Byte) : (s.resolveEscape b).draws = s.draws := rfl
@[simp] theorem State.resolveEscape_number (s : State) (b : Byte) : (s.resolveEscape b).number = s.number := rfl

@[simp] theorem State.overrun_params (s : State) : s.overrun.params = s.params := rfl
@[simp] theorem State.overrun_buf (s : State) : s.overrun.buf = s.buf := rfl
@[simp] theorem State.overrun_receivedCount (s : State) : s.overrun.receivedCount = 0 := rfl
@[simp] theorem State.overrun_lastFrameLength (s : State) : s.overrun.lastFrameLength = s.lastFrameLength := rfl
@[simp] theorem State.overrun_isReceiving (s : State) : s.overrun.isReceiving = s.isReceiving := rfl
@[simp] theorem State.overrun_pendingEscape (s : State) : s.overrun.pendingEscape = false := rfl
@[simp] theorem State.overrun_timeoutCount (s : State) : s.overrun.timeoutCount = s.timeoutCount := rfl
@[simp] theorem State.overrun_timeoutLimit (s : State) : s.overrun.timeoutLimit = s.timeoutLimit := rfl
@[simp] theorem State.overrun_currentStatus (s : State) : s.overrun.currentStatus = .bufferOverrun := rfl
@[simp] theorem State.overrun_lastStatus (s : State) : s.overrun.lastStatus = .bufferOverrun := rfl
@[simp] theorem State.overrun_initialized (s : State) : s.overrun.initialized = s.initialized := rfl
@[simp] theorem State.overrun_faulted (s : State) : s.overrun.faulted = s.faulted := rfl
@[simp] theorem State.overrun_discarding (s : State) : s.overrun.discarding = true := rfl
@[simp] theorem State.overrun_badEscape (s : State) : s.overrun.badEscape = false := rfl
@[simp] theorem State.overrun_rx (s : State) : s.overrun.rx = s.rx := rfl
@[simp] theorem State.overrun_bytePos (s : State) : s.overrun.bytePos = s.bytePos := rfl
@[simp] theorem State.overrun_inbox (s : State) : s.overrun.inbox = s.inbox := rfl
@[simp] theorem State.overrun_events (s : State) : s.overrun.events = s.events := rfl
@[simp] theorem State.overrun_sink (s : State) : s.overrun.sink = s.sink := rfl
@[simp] theorem State.overrun_results (s : State) : s.overrun.results = s.results := rfl
@[simp] theorem State.overrun_draws (s : State) : s.overrun.draws = s.draws := rfl
@[simp] theorem State.overrun_number (s : State) : s.overrun.number = s.number := rfl

@[simp] theorem State.dataWrite_params (s : State) (v : Byte) : (s.dataWrite v).params = s.params := rfl
@[simp] theorem State.dataWrite_buf (s : State) (v : Byte) : (s.dataWrite v).buf = Memory.write s.buf s.receivedCount v := rfl
@[simp] theorem State.dataWrite_receivedCount (s : State) (v : Byte) : (s.dataWrite v).receivedCount = s.receivedCount + 1 := rfl
@[simp] theorem State.dataWrite_lastFrameLength (s : State) (v : Byte) : (s.dataWrite v).lastFrameLength = s.lastFrameLength := rfl
@[simp] theorem State.dataWrite_isReceiving (s : State) (v : Byte) : (s.dataWrite v).isReceiving = s.isReceiving := rfl
@[simp] theorem State.dataWrite_pendingEscape (s : State) (v : Byte) : (s.dataWrite v).pendingEscape = s.pendingEscape := rfl
@[simp] theorem State.dataWrite_timeoutCount (s : State) (v : Byte) : (s.dataWrite v).timeoutCount = s.timeoutCount := rfl
@[simp] theorem State.dataWrite_timeoutLimit (s : State) (v : Byte) : (s.dataWrite v).timeoutLimit = s.timeoutLimit := rfl
@[simp] theorem State.dataWrite_currentStatus (s : State) (v : Byte) : (s.dataWrite v).currentStatus = s.currentStatus := rfl
@[simp] theorem State.dataWrite_lastStatus (s : State) (v : Byte) : (s.dataWrite v).lastStatus = s.lastStatus := rfl
@[simp] theorem State.dataWrite_initialized (s : State) (v : Byte) : (s.dataWrite v).initialized = s.initialized := rfl
@[simp] theorem State.dataWrite_faulted (s : State) (v : Byte) : (s.dataWrite v).faulted = s.faulted := rfl
@[simp] theorem State.dataWrite_discarding (s : State) (v : Byte) : (s.dataWrite v).discarding = s.discarding := rfl
@[simp] theorem State.dataWrite_badEscape (s : State) (v : Byte) : (s.dataWrite v).badEscape = s.badEscape := rfl
@[simp] theorem State.dataWrite_rx (s : State) (v : Byte) : (s.dataWrite v).rx = s.rx := rfl
@[simp] theorem State.dataWrite_bytePos (s : State) (v : Byte) : (s.dataWrite v).bytePos = s.bytePos := rfl
@[simp] theorem State.dataWrite_inbox (s : State) (v : Byte) : (s.dataWrite v).inbox = s.inbox := rfl
@[simp] theorem State.dataWrite_events (s : State) (v : Byte) : (s.dataWrite v).events = s.events := rfl
@[simp] theorem State.dataWrite_sink (s : State) (v : Byte) : (s.dataWrite v).sink = s.sink := rfl
@[simp] theorem State.dataWrite_results (s : State) (v : Byte) : (s.dataWrite v).results = s.results := rfl
@[simp] theorem State.dataWrite_draws (s : State) (v : Byte) : (s.dataWrite v).draws = s.draws := rfl
@[simp] theorem State.dataWrite_number (s : State) (v : Byte) : (s.dataWrite v).number = s.number := rfl

@[simp] theorem State.escStep_params (s : State) : s.escStep.params = s.params := rfl
@[simp] theorem State.escStep_buf (s : State) : s.escStep.buf = s.buf := rfl
@[simp] theorem State.escStep_receivedCount (s : State) : s.escStep.receivedCount = s.receivedCount := rfl
@[simp] theorem State.escStep_lastFrameLength (s : State) : s.escStep.lastFrameLength = s.lastFrameLength := rfl
@[simp] theorem State.escStep_isReceiving (s : State) : s.escStep.isReceiving = s.isReceiving := rfl
@[simp] theorem State.escStep_pendingEscape (s : State) : s.escStep.pendingEscape = true := rfl
@[simp] theorem State.escStep_timeoutCount (s : State) : s.escStep.timeoutCount = s.timeoutCount := rfl
@[simp] theorem State.escStep_timeoutLimit (s : State) : s.escStep.timeoutLimit = s.timeoutLimit := rfl
@[simp] theorem State.escStep_currentStatus (s : State) : s.escStep.currentStatus = s.currentStatus := rfl
@[simp] theorem State.escStep_lastStatus (s : State) : s.escStep.lastStatus = s.lastStatus := rfl
@[simp] theorem State.escStep_initialized (s : State) : s.escStep.initialized = s.initialized := rfl
@[simp] theorem State.escStep_faulted (s : State) : s.escStep.faulted = s.faulted := rfl
@[simp] theorem State.escStep_discarding (s : State) : s.escStep.discarding = s.discarding := rfl
@[simp] theorem State.escStep_badEscape (s : State) : s.escStep.badEscape = s.badEscape := rfl
@[simp] theorem State.escStep_rx (s : State) : s.escStep.rx = s.rx := rfl
@[simp] theorem State.escStep_bytePos (s : State) : s.escStep.bytePos = s.bytePos := rfl
@[simp] theorem State.escStep_inbox (s : State) : s.escStep.inbox = s.inbox := rfl
@[simp] theorem State.escStep_events (s : State) : s.escStep.events = s.events := rfl
@[simp] theorem State.escStep_sink (s : State) : s.escStep.sink = s.sink := rfl
@[simp] theorem State.escStep_results (s : State) : s.escStep.results = s.results := rfl
@[simp] theorem State.escStep_draws (s : State) : s.escStep.draws = s.draws := rfl
@[simp] theorem State.escStep_number (s : State) : s.escStep.number = s.number := rfl

@[simp] theorem State.timeOut_params (s : State) : s.timeOut.params = s.params := rfl
@[simp] theorem State.timeOut_buf (s : State) : s.timeOut.buf = s.buf := rfl
@[simp] theorem State.timeOut_receivedCount (s : State) : s.timeOut.receivedCount = 0 := rfl
@[simp] theorem State.timeOut_lastFrameLength (s : State) : s.timeOut.lastFrameLength = 0 := rfl
@[simp] theorem State.timeOut_isReceiving (s : State) : s.timeOut.isReceiving = false := rfl
@[simp] theorem State.timeOut_pendingEscape (s : State) : s.timeOut.pendingEscape = false := rfl
@[simp] theorem State.timeOut_timeoutCount (s : State) : s.timeOut.timeoutCount = 0 := rfl
@[simp] theorem State.timeOut_timeoutLimit (s : State) : s.timeOut.timeoutLimit = s.timeoutLimit := rfl
@[simp] theorem State.timeOut_currentStatus (s : State) : s.timeOut.currentStatus = .decoding := rfl
@[simp] theorem State.timeOut_lastStatus (s : State) : s.timeOut.lastStatus = .decoding := rfl
@[simp] theorem State.timeOut_initialized (s : State) : s.timeOut.initialized = s.initialized := rfl
@[simp] theorem State.timeOut_faulted (s : State) : s.timeOut.faulted = s.faulted := rfl
@[simp] theorem State.timeOut_discarding (s : State) : s.timeOut.discarding = false := rfl
@[simp] theorem State.timeOut_badEscape (s : State) : s.timeOut.badEscape = false := rfl
@[simp] theorem State.timeOut_rx (s : State) : s.timeOut.rx = s.rx := rfl
@[simp] theorem State.timeOut_bytePos (s : State) : s.timeOut.bytePos = s.bytePos := rfl
@[simp] theorem State.timeOut_inbox (s : State) : s.timeOut.inbox = s.inbox := rfl
@[simp] theorem State.timeOut_events (s : State) : s.timeOut.events = s.events ++ [.timedOut] := rfl
@[simp] theorem State.timeOut_sink (s : State) : s.timeOut.sink = s.sink := rfl
@[simp] theorem State.timeOut_results (s : State) : s.timeOut.results = s.results ++ [.ticked true] := rfl
@[simp] theorem State.timeOut_draws (s : State) : s.timeOut.draws = s.draws := rfl
@[simp] theorem State.timeOut_number (s : State) : s.timeOut.number = s.number := rfl

@[simp] theorem State.giveEscaped_params (s : State) (bytes : List Byte) : (s.giveEscaped bytes).params = s.params := rfl
@[simp] theorem State.giveEscaped_buf (s : State) (bytes : List Byte) : (s.giveEscaped bytes).buf = s.buf := rfl
@[simp] theorem State.giveEscaped_receivedCount (s : State) (bytes : List Byte) : (s.giveEscaped bytes).receivedCount = s.receivedCount := rfl
@[simp] theorem State.giveEscaped_lastFrameLength (s : State) (bytes : List Byte) : (s.giveEscaped bytes).lastFrameLength = s.lastFrameLength := rfl
@[simp] theorem State.giveEscaped_isReceiving (s : State) (bytes : List Byte) : (s.giveEscaped bytes).isReceiving = s.isReceiving := rfl
@[simp] theorem State.giveEscaped_pendingEscape (s : State) (bytes : List Byte) : (s.giveEscaped bytes).pendingEscape = s.pendingEscape := rfl
@[simp] theorem State.giveEscaped_timeoutCount (s : State) (bytes : List Byte) : (s.giveEscaped bytes).timeoutCount = s.timeoutCount := rfl
@[simp] theorem State.giveEscaped_timeoutLimit (s : State) (bytes : List Byte) : (s.giveEscaped bytes).timeoutLimit = s.timeoutLimit := rfl
@[simp] theorem State.giveEscaped_currentStatus (s : State) (bytes : List Byte) : (s.giveEscaped bytes).currentStatus = s.currentStatus := rfl
@[simp] theorem State.giveEscaped_lastStatus (s : State) (bytes : List Byte) : (s.giveEscaped bytes).lastStatus = s.lastStatus := rfl
@[simp] theorem State.giveEscaped_initialized (s : State) (bytes : List Byte) : (s.giveEscaped bytes).initialized = s.initialized := rfl
@[simp] theorem State.giveEscaped_faulted (s : State) (bytes : List Byte) : (s.giveEscaped bytes).faulted = s.faulted := rfl
@[simp] theorem State.giveEscaped_discarding (s : State) (bytes : List Byte) : (s.giveEscaped bytes).discarding = s.discarding := rfl
@[simp] theorem State.giveEscaped_badEscape (s : State) (bytes : List Byte) : (s.giveEscaped bytes).badEscape = s.badEscape := rfl
@[simp] theorem State.giveEscaped_rx (s : State) (bytes : List Byte) : (s.giveEscaped bytes).rx = s.rx := rfl
@[simp] theorem State.giveEscaped_bytePos (s : State) (bytes : List Byte) : (s.giveEscaped bytes).bytePos = s.bytePos := rfl
@[simp] theorem State.giveEscaped_inbox (s : State) (bytes : List Byte) : (s.giveEscaped bytes).inbox = s.inbox := rfl
@[simp] theorem State.giveEscaped_events (s : State) (bytes : List Byte) : (s.giveEscaped bytes).events = s.events := rfl
@[simp] theorem State.giveEscaped_sink (s : State) (bytes : List Byte) : (s.giveEscaped bytes).sink = s.sink := rfl
@[simp] theorem State.giveEscaped_results (s : State) (bytes : List Byte) : (s.giveEscaped bytes).results = s.results ++ [.escaped bytes bytes.length] := rfl
@[simp] theorem State.giveEscaped_draws (s : State) (bytes : List Byte) : (s.giveEscaped bytes).draws = s.draws := rfl
@[simp] theorem State.giveEscaped_number (s : State) (bytes : List Byte) : (s.giveEscaped bytes).number = s.number := rfl

@[simp] theorem State.takeByte_params (s : State) : s.takeByte.params = s.params := rfl
@[simp] theorem State.takeByte_buf (s : State) : s.takeByte.buf = s.buf := rfl
@[simp] theorem State.takeByte_receivedCount (s : State) : s.takeByte.receivedCount = s.receivedCount := rfl
@[simp] theorem State.takeByte_lastFrameLength (s : State) : s.takeByte.lastFrameLength = s.lastFrameLength := rfl
@[simp] theorem State.takeByte_isReceiving (s : State) : s.takeByte.isReceiving = s.isReceiving := rfl
@[simp] theorem State.takeByte_pendingEscape (s : State) : s.takeByte.pendingEscape = s.pendingEscape := rfl
@[simp] theorem State.takeByte_timeoutCount (s : State) : s.takeByte.timeoutCount = s.timeoutCount := rfl
@[simp] theorem State.takeByte_timeoutLimit (s : State) : s.takeByte.timeoutLimit = s.timeoutLimit := rfl
@[simp] theorem State.takeByte_currentStatus (s : State) : s.takeByte.currentStatus = s.currentStatus := rfl
@[simp] theorem State.takeByte_lastStatus (s : State) : s.takeByte.lastStatus = s.lastStatus := rfl
@[simp] theorem State.takeByte_initialized (s : State) : s.takeByte.initialized = s.initialized := rfl
@[simp] theorem State.takeByte_faulted (s : State) : s.takeByte.faulted = s.faulted := rfl
@[simp] theorem State.takeByte_discarding (s : State) : s.takeByte.discarding = s.discarding := rfl
@[simp] theorem State.takeByte_badEscape (s : State) : s.takeByte.badEscape = s.badEscape := rfl
@[simp] theorem State.takeByte_rx (s : State) : s.takeByte.rx = s.rx.tail := rfl
@[simp] theorem State.takeByte_bytePos (s : State) : s.takeByte.bytePos = s.bytePos + 1 := rfl
@[simp] theorem State.takeByte_inbox (s : State) : s.takeByte.inbox = s.inbox := rfl
@[simp] theorem State.takeByte_events (s : State) : s.takeByte.events = s.events := rfl
@[simp] theorem State.takeByte_sink (s : State) : s.takeByte.sink = s.sink := rfl
@[simp] theorem State.takeByte_results (s : State) : s.takeByte.results = if s.rx.tail = [] then s.results ++ [.decodeDone] else s.results := rfl
@[simp] theorem State.takeByte_draws (s : State) : s.takeByte.draws = s.draws := rfl
@[simp] theorem State.takeByte_number (s : State) : s.takeByte.number = s.number := rfl

@[simp] theorem State.takeInput_params (s : State) : s.takeInput.params = s.params := rfl
@[simp] theorem State.takeInput_buf (s : State) : s.takeInput.buf = s.buf := rfl
@[simp] theorem State.takeInput_receivedCount (s : State) : s.takeInput.receivedCount = s.receivedCount := rfl
@[simp] theorem State.takeInput_lastFrameLength (s : State) : s.takeInput.lastFrameLength = s.lastFrameLength := rfl
@[simp] theorem State.takeInput_isReceiving (s : State) : s.takeInput.isReceiving = s.isReceiving := rfl
@[simp] theorem State.takeInput_pendingEscape (s : State) : s.takeInput.pendingEscape = s.pendingEscape := rfl
@[simp] theorem State.takeInput_timeoutCount (s : State) : s.takeInput.timeoutCount = s.timeoutCount := rfl
@[simp] theorem State.takeInput_timeoutLimit (s : State) : s.takeInput.timeoutLimit = s.timeoutLimit := rfl
@[simp] theorem State.takeInput_currentStatus (s : State) : s.takeInput.currentStatus = s.currentStatus := rfl
@[simp] theorem State.takeInput_lastStatus (s : State) : s.takeInput.lastStatus = s.lastStatus := rfl
@[simp] theorem State.takeInput_initialized (s : State) : s.takeInput.initialized = s.initialized := rfl
@[simp] theorem State.takeInput_faulted (s : State) : s.takeInput.faulted = s.faulted := rfl
@[simp] theorem State.takeInput_discarding (s : State) : s.takeInput.discarding = s.discarding := rfl
@[simp] theorem State.takeInput_badEscape (s : State) : s.takeInput.badEscape = s.badEscape := rfl
@[simp] theorem State.takeInput_rx (s : State) : s.takeInput.rx = s.rx := rfl
@[simp] theorem State.takeInput_bytePos (s : State) : s.takeInput.bytePos = s.bytePos := rfl
@[simp] theorem State.takeInput_inbox (s : State) : s.takeInput.inbox = s.inbox.tail := rfl
@[simp] theorem State.takeInput_events (s : State) : s.takeInput.events = s.events := rfl
@[simp] theorem State.takeInput_sink (s : State) : s.takeInput.sink = s.sink := rfl
@[simp] theorem State.takeInput_results (s : State) : s.takeInput.results = s.results := rfl
@[simp] theorem State.takeInput_draws (s : State) : s.takeInput.draws = s.draws := rfl
@[simp] theorem State.takeInput_number (s : State) : s.takeInput.number = s.number := rfl

@[simp] theorem State.hardwareReset_params (s : State) : s.hardwareReset.params = s.params := rfl
@[simp] theorem State.hardwareReset_buf (s : State) : s.hardwareReset.buf = State.reset.buf := rfl
@[simp] theorem State.hardwareReset_receivedCount (s : State) : s.hardwareReset.receivedCount = State.reset.receivedCount := rfl
@[simp] theorem State.hardwareReset_lastFrameLength (s : State) : s.hardwareReset.lastFrameLength = State.reset.lastFrameLength := rfl
@[simp] theorem State.hardwareReset_isReceiving (s : State) : s.hardwareReset.isReceiving = State.reset.isReceiving := rfl
@[simp] theorem State.hardwareReset_pendingEscape (s : State) : s.hardwareReset.pendingEscape = State.reset.pendingEscape := rfl
@[simp] theorem State.hardwareReset_timeoutCount (s : State) : s.hardwareReset.timeoutCount = State.reset.timeoutCount := rfl
@[simp] theorem State.hardwareReset_timeoutLimit (s : State) : s.hardwareReset.timeoutLimit = State.reset.timeoutLimit := rfl
@[simp] theorem State.hardwareReset_currentStatus (s : State) : s.hardwareReset.currentStatus = State.reset.currentStatus := rfl
@[simp] theorem State.hardwareReset_lastStatus (s : State) : s.hardwareReset.lastStatus = State.reset.lastStatus := rfl
@[simp] theorem State.hardwareReset_initialized (s : State) : s.hardwareReset.initialized = State.reset.initialized := rfl
@[simp] theorem State.hardwareReset_faulted (s : State) : s.hardwareReset.faulted = State.reset.faulted := rfl
@[simp] theorem State.hardwareReset_discarding (s : State) : s.hardwareReset.discarding = State.reset.discarding := rfl
@[simp] theorem State.hardwareReset_badEscape (s : State) : s.hardwareReset.badEscape = State.reset.badEscape := rfl
@[simp] theorem State.hardwareReset_rx (s : State) : s.hardwareReset.rx = State.reset.rx := rfl
@[simp] theorem State.hardwareReset_bytePos (s : State) : s.hardwareReset.bytePos = State.reset.bytePos := rfl
@[simp] theorem State.hardwareReset_inbox (s : State) : s.hardwareReset.inbox = s.inbox := rfl
@[simp] theorem State.hardwareReset_events (s : State) : s.hardwareReset.events = State.reset.events := rfl
@[simp] theorem State.hardwareReset_sink (s : State) : s.hardwareReset.sink = State.reset.sink := rfl
@[simp] theorem State.hardwareReset_results (s : State) : s.hardwareReset.results = State.reset.results := rfl
@[simp] theorem State.hardwareReset_draws (s : State) : s.hardwareReset.draws = s.draws := rfl
@[simp] theorem State.hardwareReset_number (s : State) : s.hardwareReset.number = s.number := rfl

@[simp] theorem State.dataFirst_params (s : State) : s.dataFirst.params = s.params := by unfold State.dataFirst; split <;> rfl
@[simp] theorem State.dataFirst_buf (s : State) : s.dataFirst.buf = s.buf := by unfold State.dataFirst; split <;> rfl
@[simp] theorem State.dataFirst_receivedCount (s : State) : s.dataFirst.receivedCount = s.receivedCount := by unfold State.dataFirst; split <;> rfl
@[simp] theorem State.dataFirst_lastFrameLength (s : State) : s.dataFirst.lastFrameLength = s.lastFrameLength := by unfold State.dataFirst; split <;> rfl
@[simp] theorem State.dataFirst_pendingEscape (s : State) : s.dataFirst.pendingEscape = s.pendingEscape := by unfold State.dataFirst; split <;> rfl
@[simp] theorem State.dataFirst_timeoutLimit (s : State) : s.dataFirst.timeoutLimit = s.timeoutLimit := by unfold State.dataFirst; split <;> rfl
@[simp] theorem State.dataFirst_currentStatus (s : State) : s.dataFirst.currentStatus = s.currentStatus := by unfold State.dataFirst; split <;> rfl
@[simp] theorem State.dataFirst_lastStatus (s : State) : s.dataFirst.lastStatus = s.lastStatus := by unfold State.dataFirst; split <;> rfl
@[simp] theorem State.dataFirst_initialized (s : State) : s.dataFirst.initialized = s.initialized := by unfold State.dataFirst; split <;> rfl
@[simp] theorem State.dataFirst_faulted (s : State) : s.dataFirst.faulted = s.faulted := by unfold State.dataFirst; split <;> rfl
@[simp] theorem State.dataFirst_discarding (s : State) : s.dataFirst.discarding = s.discarding := by unfold State.dataFirst; split <;> rfl
@[simp] theorem State.dataFirst_badEscape (s : State) : s.dataFirst.badEscape = s.badEscape := by unfold State.dataFirst; split <;> rfl
@[simp] theorem State.dataFirst_rx (s : State) : s.dataFirst.rx = s.rx := by unfold State.dataFirst; split <;> rfl
@[simp] theorem State.dataFirst_bytePos (s : State) : s.dataFirst.bytePos = s.bytePos := by unfold State.dataFirst; split <;> rfl
@[simp] theorem State.dataFirst_inbox (s : State) : s.dataFirst.inbox = s.inbox := by unfold State.dataFirst; split <;> rfl
@[simp] theorem State.dataFirst_events (s : State) : s.dataFirst.events = s.events := by unfold State.dataFirst; split <;> rfl
@[simp] theorem State.dataFirst_sink (s : State) : s.dataFirst.sink = s.sink := by unfold State.dataFirst; split <;> rfl
@[simp] theorem State.dataFirst_results (s : State) : s.dataFirst.results = s.results := by unfold State.dataFirst; split <;> rfl
@[simp] theorem State.dataFirst_draws (s : State) : s.dataFirst.draws = s.draws := by unfold State.dataFirst; split <;> rfl
@[simp] theorem State.dataFirst_number (s : State) : s.dataFirst.number = s.number := by unfold State.dataFirst; split <;> rfl
@[simp] theorem State.dataFirst_isReceiving (s : State) : s.dataFirst.isReceiving = true := by
  unfold State.dataFirst; split <;> simp_all
theorem State.dataFirst_timeoutCount (s : State) :
    s.dataFirst.timeoutCount = if s.isReceiving then s.timeoutCount else 0 := by
  unfold State.dataFirst; split <;> simp_all

@[simp] theorem State.afterBufRead_params (s : State) (i : Nat) : (s.afterBufRead i).params = s.params := by unfold State.afterBufRead; split <;> rfl
@[simp] theorem State.afterBufRead_buf (s : State) (i : Nat) : (s.afterBufRead i).buf = s.buf := by unfold State.afterBufRead; split <;> rfl
@[simp] theorem State.afterBufRead_receivedCount (s : State) (i : Nat) : (s.afterBufRead i).receivedCount = s.receivedCount := by unfold State.afterBufRead; split <;> rfl
@[simp] theorem State.afterBufRead_lastFrameLength (s : State) (i : Nat) : (s.afterBufRead i).lastFrameLength = s.lastFrameLength := by unfold State.afterBufRead; split <;> rfl
@[simp] theorem State.afterBufRead_isReceiving (s : State) (i : Nat) : (s.afterBufRead i).isReceiving = s.isReceiving := by unfold State.afterBufRead; split <;> rfl
@[simp] theorem State.afterBufRead_pendingEscape (s : State) (i : Nat) : (s.afterBufRead i).pendingEscape = s.pendingEscape := by unfold State.afterBufRead; split <;> rfl
@[simp] theorem State.afterBufRead_timeoutCount (s : State) (i : Nat) : (s.afterBufRead i).timeoutCount = s.timeoutCount := by unfold State.afterBufRead; split <;> rfl
@[simp] theorem State.afterBufRead_timeoutLimit (s : State) (i : Nat) : (s.afterBufRead i).timeoutLimit = s.timeoutLimit := by unfold State.afterBufRead; split <;> rfl
@[simp] theorem State.afterBufRead_currentStatus (s : State) (i : Nat) : (s.afterBufRead i).currentStatus = s.currentStatus := by unfold State.afterBufRead; split <;> rfl
@[simp] theorem State.afterBufRead_lastStatus (s : State) (i : Nat) : (s.afterBufRead i).lastStatus = s.lastStatus := by unfold State.afterBufRead; split <;> rfl
@[simp] theorem State.afterBufRead_initialized (s : State) (i : Nat) : (s.afterBufRead i).initialized = s.initialized := by unfold State.afterBufRead; split <;> rfl
@[simp] theorem State.afterBufRead_faulted (s : State) (i : Nat) : (s.afterBufRead i).faulted = s.faulted := by unfold State.afterBufRead; split <;> rfl
@[simp] theorem State.afterBufRead_discarding (s : State) (i : Nat) : (s.afterBufRead i).discarding = s.discarding := by unfold State.afterBufRead; split <;> rfl
@[simp] theorem State.afterBufRead_badEscape (s : State) (i : Nat) : (s.afterBufRead i).badEscape = s.badEscape := by unfold State.afterBufRead; split <;> rfl
@[simp] theorem State.afterBufRead_rx (s : State) (i : Nat) : (s.afterBufRead i).rx = s.rx := by unfold State.afterBufRead; split <;> rfl
@[simp] theorem State.afterBufRead_bytePos (s : State) (i : Nat) : (s.afterBufRead i).bytePos = s.bytePos := by unfold State.afterBufRead; split <;> rfl
@[simp] theorem State.afterBufRead_inbox (s : State) (i : Nat) : (s.afterBufRead i).inbox = s.inbox := by unfold State.afterBufRead; split <;> rfl
@[simp] theorem State.afterBufRead_events (s : State) (i : Nat) : (s.afterBufRead i).events = s.events := by unfold State.afterBufRead; split <;> rfl
@[simp] theorem State.afterBufRead_sink (s : State) (i : Nat) : (s.afterBufRead i).sink = s.sink := by unfold State.afterBufRead; split <;> rfl
@[simp] theorem State.afterBufRead_results (s : State) (i : Nat) : (s.afterBufRead i).results = s.results := by unfold State.afterBufRead; split <;> rfl
@[simp] theorem State.afterBufRead_number (s : State) (i : Nat) : (s.afterBufRead i).number = s.number := by unfold State.afterBufRead; split <;> rfl

@[simp] theorem afterRegisterRead_params (s : State) (r : Register) : (afterRegisterRead s r).params = s.params := by cases r <;> simp [afterRegisterRead]
@[simp] theorem afterRegisterRead_buf (s : State) (r : Register) : (afterRegisterRead s r).buf = s.buf := by cases r <;> simp [afterRegisterRead]
@[simp] theorem afterRegisterRead_receivedCount (s : State) (r : Register) : (afterRegisterRead s r).receivedCount = s.receivedCount := by cases r <;> simp [afterRegisterRead]
@[simp] theorem afterRegisterRead_lastFrameLength (s : State) (r : Register) : (afterRegisterRead s r).lastFrameLength = s.lastFrameLength := by cases r <;> simp [afterRegisterRead]
@[simp] theorem afterRegisterRead_isReceiving (s : State) (r : Register) : (afterRegisterRead s r).isReceiving = s.isReceiving := by cases r <;> simp [afterRegisterRead]
@[simp] theorem afterRegisterRead_pendingEscape (s : State) (r : Register) : (afterRegisterRead s r).pendingEscape = s.pendingEscape := by cases r <;> simp [afterRegisterRead]
@[simp] theorem afterRegisterRead_timeoutCount (s : State) (r : Register) : (afterRegisterRead s r).timeoutCount = s.timeoutCount := by cases r <;> simp [afterRegisterRead]
@[simp] theorem afterRegisterRead_timeoutLimit (s : State) (r : Register) : (afterRegisterRead s r).timeoutLimit = s.timeoutLimit := by cases r <;> simp [afterRegisterRead]
@[simp] theorem afterRegisterRead_currentStatus (s : State) (r : Register) : (afterRegisterRead s r).currentStatus = s.currentStatus := by cases r <;> simp [afterRegisterRead]
@[simp] theorem afterRegisterRead_lastStatus (s : State) (r : Register) : (afterRegisterRead s r).lastStatus = s.lastStatus := by cases r <;> simp [afterRegisterRead]
@[simp] theorem afterRegisterRead_initialized (s : State) (r : Register) : (afterRegisterRead s r).initialized = s.initialized := by cases r <;> simp [afterRegisterRead]
@[simp] theorem afterRegisterRead_faulted (s : State) (r : Register) : (afterRegisterRead s r).faulted = s.faulted := by cases r <;> simp [afterRegisterRead]
@[simp] theorem afterRegisterRead_discarding (s : State) (r : Register) : (afterRegisterRead s r).discarding = s.discarding := by cases r <;> simp [afterRegisterRead]
@[simp] theorem afterRegisterRead_badEscape (s : State) (r : Register) : (afterRegisterRead s r).badEscape = s.badEscape := by cases r <;> simp [afterRegisterRead]
@[simp] theorem afterRegisterRead_rx (s : State) (r : Register) : (afterRegisterRead s r).rx = s.rx := by cases r <;> simp [afterRegisterRead]
@[simp] theorem afterRegisterRead_bytePos (s : State) (r : Register) : (afterRegisterRead s r).bytePos = s.bytePos := by cases r <;> simp [afterRegisterRead]
@[simp] theorem afterRegisterRead_inbox (s : State) (r : Register) : (afterRegisterRead s r).inbox = s.inbox := by cases r <;> simp [afterRegisterRead]
@[simp] theorem afterRegisterRead_events (s : State) (r : Register) : (afterRegisterRead s r).events = s.events := by cases r <;> simp [afterRegisterRead]
@[simp] theorem afterRegisterRead_sink (s : State) (r : Register) : (afterRegisterRead s r).sink = s.sink := by cases r <;> simp [afterRegisterRead]
@[simp] theorem afterRegisterRead_results (s : State) (r : Register) : (afterRegisterRead s r).results = s.results := by cases r <;> simp [afterRegisterRead]
@[simp] theorem afterRegisterRead_number (s : State) (r : Register) : (afterRegisterRead s r).number = s.number := by cases r <;> simp [afterRegisterRead]

end Sys2Proof.Machine
end

