-- ==== Sys2Proof/Laws/Ops.lean ====
section
/-! SUPPORT. What each shared operation can do, said once: a proof cites these and does not unfold the operation. -/

namespace Sys2Proof.Machine

/-- `ifLive`: a faulted instance stays, a live one acts. -/
theorem ifLive_of_live {s : State} (h : s.faulted = false) (act : Host.Outcome State Fault Refusal) :
    ifLive s act = act := by simp [ifLive, h]

theorem ifLive_of_faulted {s : State} (h : s.faulted = true) (act : Host.Outcome State Fault Refusal) :
    ifLive s act = .next s := by simp [ifLive, h]

theorem ifLive_next {s t : State} {act : Host.Outcome State Fault Refusal} (h : ifLive s act = .next t) :
    (s.faulted = true ∧ t = s) ∨ (s.faulted = false ∧ act = .next t) := by
  unfold ifLive at h
  split at h
  · next hf => exact .inl ⟨hf, by cases h; rfl⟩
  · next hf => exact .inr ⟨by simpa using hf, h⟩

theorem ifInitialized_of_init {s : State} (h : s.initialized = true) (u : UsageError)
    (act : Host.Outcome State Fault Refusal) : ifInitialized s u act = act := by simp [ifInitialized, h]

theorem ifInitialized_of_uninit {s : State} (h : s.initialized = false) (u : UsageError)
    (act : Host.Outcome State Fault Refusal) : ifInitialized s u act = .next (s.raise u) := by simp [ifInitialized, h]

theorem ifInitialized_next {s t : State} {u : UsageError} {act : Host.Outcome State Fault Refusal}
    (h : ifInitialized s u act = .next t) :
    (s.initialized = false ∧ t = s.raise u) ∨ (s.initialized = true ∧ act = .next t) := by
  unfold ifInitialized at h
  split at h
  · next hi => exact .inr ⟨hi, h⟩
  · next hi => exact .inl ⟨by simpa using hi, by cases h; rfl⟩

/-- A range inside the buffer is read. -/
theorem State.frame_of_le {s : State} {n : Nat} (h : n ≤ s.params.cap) :
    s.frame n = some ((List.range n).map s.bufByte) := by simp [State.frame, h]

/-- A written byte is read as it was written. -/
theorem State.bufByte_of_read {s : State} {i : Nat} {v : Byte} (h : Memory.read s.buf i = some v) :
    s.bufByte i = v := by simp [State.bufByte, h]

/-- An unwritten byte is read as the free value of the current draw. -/
theorem State.bufByte_of_unwritten {s : State} {i : Nat} (h : Memory.read s.buf i = none) :
    s.bufByte i = Config.freeByte s.number s.draws i := by simp [State.bufByte, h]

/-- A read of an unwritten byte uses up a draw. -/
theorem State.afterBufRead_of_unwritten {s : State} {i : Nat} (h : Memory.read s.buf i = none) :
    s.afterBufRead i = { s with draws := s.draws + 1 } := by simp [State.afterBufRead, h]

/-- END closes the frame and checks it, or ends discard mode, or finds an index that does not exist. -/
theorem endStep_next {s t : State} (h : endStep s = .next t) :
    (s.discarding = true ∧ t = s.endDiscard) ∨
    (s.discarding = false ∧ s.receivedCount ≤ s.params.cap ∧
      t = s.closeFrame.recordVerdict
        (frameVerdict s.params.crc s.badEscape ((List.range s.receivedCount).map s.bufByte))
        ((List.range s.receivedCount).map s.bufByte)) := by
  unfold endStep at h
  split at h
  · next hd => exact .inl ⟨hd, by cases h; rfl⟩
  · next hd =>
    refine .inr ⟨by simpa using hd, ?_⟩
    unfold frameCheck at h
    by_cases hc : s.receivedCount ≤ s.params.cap
    · rw [State.frame_of_le (by simpa using hc)] at h
      cases h
      exact ⟨hc, rfl⟩
    · simp [State.frame, hc] at h

/-- A frame inside the buffer completes the END step. -/
theorem endStep_of_le {s : State} (hd : s.discarding = false) (hc : s.receivedCount ≤ s.params.cap) :
    endStep s = .next (s.closeFrame.recordVerdict
      (frameVerdict s.params.crc s.badEscape ((List.range s.receivedCount).map s.bufByte))
      ((List.range s.receivedCount).map s.bufByte)) := by
  unfold endStep frameCheck
  rw [State.frame_of_le (by simpa using hc)]
  simp [hd]
  rfl

/-- A frame that reaches past the buffer is the one fault (no reachable state has one). -/
theorem endStep_of_gt {s : State} (hd : s.discarding = false) (hc : s.params.cap < s.receivedCount) :
    endStep s = .fault .bufferBounds := by
  unfold endStep frameCheck State.frame
  have h : ¬ s.closeFrame.lastFrameLength ≤ s.closeFrame.params.cap := by simpa using hc
  simp only [hd, if_neg h]
  rfl

/-- A DATA byte aborts the frame or is stored. -/
theorem dataStep_cases (b : Byte) (s : State) :
    (s.params.cap ≤ s.receivedCount ∧ dataStep b s = (s.dataFirst.resolveEscape b).overrun) ∨
    (s.receivedCount < s.params.cap ∧
      dataStep b s = (s.dataFirst.resolveEscape b).dataWrite (resolvedByte s.pendingEscape b)) := by
  unfold dataStep
  by_cases h : s.params.cap ≤ s.receivedCount
  · exact .inl ⟨h, by simp [h]⟩
  · exact .inr ⟨by omega, by simp [h]⟩

/-- A TICK is not counted, or counts, or times the instance out. -/
theorem tickStep_cases (s : State) :
    (tickCounts s = false ∧ tickStep s = s.giveResult (.ticked false)) ∨
    (tickCounts s = true ∧ s.timeoutLimit ≤ s.timeoutCount + 1 ∧
      tickStep s = { s with timeoutCount := s.timeoutCount + 1 }.timeOut) ∨
    (tickCounts s = true ∧ s.timeoutCount + 1 < s.timeoutLimit ∧
      tickStep s = { s with timeoutCount := s.timeoutCount + 1 }.giveResult (.ticked false)) := by
  unfold tickStep
  split
  · next h => exact .inl ⟨h, rfl⟩
  · next h =>
    split
    · next hl => exact .inr (.inl ⟨by simpa using h, hl, rfl⟩)
    · next hl => exact .inr (.inr ⟨by simpa using h, by omega, rfl⟩)

/-- A read of `Buf` changes nothing but the count of draws. -/
theorem State.afterBufRead_eq (s : State) (i : Nat) :
    s.afterBufRead i = { s with draws := (s.afterBufRead i).draws } := by
  unfold State.afterBufRead; split <;> rfl

theorem afterRegisterRead_eq (s : State) (r : Register) :
    afterRegisterRead s r = { s with draws := (afterRegisterRead s r).draws } := by
  cases r <;> first | rfl | exact s.afterBufRead_eq _

/-- What a step can be: a byte step, a command, a codec byte, the reset, or waiting. -/
theorem step_next {s t : State} (h : step s = .next t) :
    (∃ b rest, s.rx = b :: rest ∧ exec (decodeByte s.pendingEscape b) s.takeByte = .next t) ∨
    (s.rx = [] ∧ ∃ w bytes more i, s.inbox = .command w bytes :: more ∧
      decodeCommand s.params w bytes = .ok i ∧ exec i s.takeInput = .next t) ∨
    (s.rx = [] ∧ ∃ b more, s.inbox = .codecByte b :: more ∧ exec (decodeCodec b) s.takeInput = .next t) ∨
    (s.rx = [] ∧ ∃ more, s.inbox = .hardwareReset :: more ∧ t = s.takeInput.hardwareReset) ∨
    (s.rx = [] ∧ s.inbox = [] ∧ t = s) := by
  unfold step fetch at h
  rcases hrx : s.rx with _ | ⟨b, rest⟩
  · rcases hin : s.inbox with _ | ⟨input, more⟩
    · simp only [hrx, hin] at h
      cases h
      exact .inr (.inr (.inr (.inr ⟨rfl, rfl, rfl⟩)))
    · simp only [hrx, hin] at h
      cases input with
      | command w bytes =>
        simp only [fetchInput] at h
        rcases hd : decodeCommand s.params w bytes with e | i
        · simp [hd] at h
        · simp only [hd] at h
          exact .inr (.inl ⟨rfl, w, bytes, more, i, rfl, hd, h⟩)
      | codecByte b => exact .inr (.inr (.inl ⟨rfl, b, more, rfl, h⟩))
      | hardwareReset =>
        simp only [fetchInput] at h
        cases h
        exact .inr (.inr (.inr (.inl ⟨rfl, more, rfl, rfl⟩)))
  · simp only [hrx] at h
    exact .inl ⟨b, rest, rfl, h⟩

/-- Every received byte gives one of six byte steps; END gives RX_END, ESC gives RX_ESC, any other a DATA step of it. -/
theorem decodeByte_cases (pe : Bool) (b : Byte) :
    (b = wireEnd ∧ decodeByte pe b = .rxEnd) ∨ (b = wireEsc ∧ decodeByte pe b = .rxEsc) ∨
    (b ≠ wireEnd ∧ b ≠ wireEsc ∧ dataByteOf (decodeByte pe b) = some b) := by
  unfold decodeByte
  by_cases h1 : b = wireEnd
  · simp [h1]
  · by_cases h2 : b = wireEsc
    · exact .inr (.inl ⟨h2, by subst h2; rfl⟩)
    · refine .inr (.inr ⟨h1, h2, ?_⟩)
      simp only [h1, h2, if_false]
      split
      · rfl
      · split
        · next h => simp [dataByteOf, h]
        · split
          · next h => simp [dataByteOf, h]
          · rfl

/-- Every DATA row runs the one DATA step of its byte. -/
theorem exec_data {i : Instr} {b : Byte} (h : dataByteOf i = some b) (s : State) :
    exec i s = ifLive s (ifNotDiscarding s (dataStep b s)) := by
  cases i <;> simp only [dataByteOf, Option.some.injEq, reduceCtorEq] at h <;> subst h <;> rfl

@[simp] theorem andThen_next (s : State) (k : State → Host.Outcome State Fault Refusal) : andThen (.next s) k = k s := rfl
@[simp] theorem andThen_fault (r : Fault) (k : State → Host.Outcome State Fault Refusal) :
    andThen (.fault r) k = .fault r := rfl
@[simp] theorem andThen_refused (r : Refusal) (k : State → Host.Outcome State Fault Refusal) :
    andThen (.refused r) k = .refused r := rfl

/-- A run of the machine behind the host's interface is its steps. -/
theorem run_eq_steps (k : Nat) (s : State) : Host.Core.run Sys2Proof.core k s = steps k s := by
  induction k generalizing s with
  | zero => rfl
  | succ k ih =>
    have h (M : Host.Core) (u : M.State) : M.run (k + 1) u = (match M.step u with
      | .next t => M.run k t
      | .fault r => .fault r
      | .refused r => .refused r) := rfl
    have hc := h Sys2Proof.core s
    rcases hs : step s with t | r | r
    · rw [show Sys2Proof.core.step s = .next t from hs] at hc
      simp only [steps, hs]
      exact hc.trans (ih t)
    · rw [show Sys2Proof.core.step s = .fault r from hs] at hc
      simp only [steps, hs]
      exact hc
    · rw [show Sys2Proof.core.step s = .refused r from hs] at hc
      simp only [steps, hs]
      exact hc

/-- DATA_FIRST in one record (41_decoder R92). -/
theorem State.dataFirst_eq (s : State) :
    s.dataFirst = { s with isReceiving := true, timeoutCount := if s.isReceiving then s.timeoutCount else 0 } := by
  unfold State.dataFirst
  split
  · next h => simp [← h]
  · simp_all

end Sys2Proof.Machine
end

