-- ==== Sys2Proof/Laws/Instances.lean ====
section
/-! SUPPORT. What the operations over several instances do. -/

namespace Sys2Proof.Machine

@[simp] theorem Block.setUnit_params (b : Block) (k : Nat) (s : State) : (b.setUnit k s).params = b.params := rfl
@[simp] theorem Block.setUnit_length (b : Block) (k : Nat) (s : State) : (b.setUnit k s).units.length = b.units.length := by
  simp [Block.setUnit]
@[simp] theorem Block.hardwareReset_params (b : Block) : b.hardwareReset.params = b.params := rfl
@[simp] theorem Block.hardwareReset_length (b : Block) : b.hardwareReset.units.length = b.units.length := by
  simp [Block.hardwareReset]

/-- An instance has the block's parameters and its own number. -/
theorem Block.unit_some {b : Block} {k : Nat} {s : State} (h : b.unit k = some s) :
    s.params = b.params ∧ s.number = k ∧ k < b.units.length := by
  unfold Block.unit at h
  rcases hk : b.units[k]? with _ | u
  · simp [hk] at h
  · simp only [hk, Option.map_some, Option.some.injEq] at h
    subst h
    exact ⟨rfl, rfl, (List.getElem?_eq_some_iff.1 hk).1⟩

/-- Setting one instance leaves every other. -/
theorem Block.unit_setUnit_ne (b : Block) {j k : Nat} (s : State) (h : j ≠ k) : (b.setUnit k s).unit j = b.unit j := by
  simp [Block.unit, Block.setUnit, List.getElem?_set_ne (Ne.symm h)]

/-- The instance that was set, under the block's parameters and with its own number. -/
theorem Block.unit_setUnit_self {b : Block} {k : Nat} (s : State) (h : k < b.units.length) :
    (b.setUnit k s).unit k = some { s with params := b.params, number := k } := by
  simp [Block.unit, Block.setUnit, h]

/-- After the block's reset every instance is its own reset state. -/
theorem Block.unit_hardwareReset (b : Block) (k : Nat) : b.hardwareReset.unit k = (b.unit k).map State.hardwareReset := by
  simp only [Block.unit, Block.hardwareReset, List.getElem?_map, Option.map_map]
  rfl

/-- The reset input is taken when no chunk is in progress and it stands first. -/
theorem takesReset_iff (s : State) : takesReset s = true ↔ s.rx = [] ∧ ∃ more, s.inbox = .hardwareReset :: more := by
  unfold takesReset fetch
  rcases hr : s.rx with _ | ⟨b, rest⟩
  · rcases hi : s.inbox with _ | ⟨input, more⟩
    · simp
    · cases input with
      | command w bytes =>
        simp only [fetchInput]
        rcases decodeCommand s.params w bytes with e | i <;> simp
      | codecByte b => simp [fetchInput]
      | hardwareReset => simp [fetchInput]
  · simp

/-- A step of an instance is its own step, with the block's reset where it takes the reset input. -/
theorem stepUnit_next {k : Nat} {b after : Block} {s : State} (hk : b.unit k = some s) (h : stepUnit k b = .next after) :
    ∃ t, step s = .next t ∧ after = (if takesReset s then b.hardwareReset else b).setUnit k t := by
  unfold stepUnit at h
  simp only [hk] at h
  rcases hs : step s with t | r | r <;> simp only [hs] at h <;> cases h
  exact ⟨t, rfl, rfl⟩

end Sys2Proof.Machine
end

