-- ==== Sys2Proof/Laws/PerInstr.lean ====
section
/-! SUPPORT. A law of every instruction as syntax: its encoding falls on its own row of spec/opcode_table.json. -/

namespace Sys2Proof.Laws

/-- The mask and the match of the instruction's row of spec/opcode_table.json. A row given by "encoding" and "excludes"
fixes no bit: mask 0. The INIT mask is the table's, for `TIMEOUT_W` = 16. -/
def rowBits : Instr → Word × Word
  | .init _ => (0xFFF80007#32, 0x00000000#32)
  | .decode _ => (0xFFFFFFFF#32, 0x00000001#32)
  | .tick => (0xFFFFFFFF#32, 0x00000002#32)
  | .encode _ => (0xFFFFFFFF#32, 0x00000003#32)
  | .escape _ => (0xFFFFF807#32, 0x00000004#32)
  | .read _ => (0x00000007#32, 0x00000005#32)
  | .reserved6 _ => (0x00000007#32, 0x00000006#32)
  | .reserved7 _ => (0x00000007#32, 0x00000007#32)
  | .rxEnd => (0xFF#32, 0xC0#32)
  | .rxEsc => (0xFF#32, 0xDB#32)
  | .rxData _ => (0#32, 0#32)
  | .rxDataEscEnd => (0xFF#32, 0xDC#32)
  | .rxDataEscEsc => (0xFF#32, 0xDD#32)
  | .rxDataEscBad _ => (0#32, 0#32)
  | .escInEnd => (0xFF#32, 0xC0#32)
  | .escInEsc => (0xFF#32, 0xDB#32)
  | .escInPass _ => (0#32, 0#32)

/-- The bits of an encoded instruction, as spec/opcode_table.json numbers them. -/
def encodedBits : Encoded → Word
  | .command w _ => w
  | .rxByte b => b.setWidth 32
  | .codecByte b => b.setWidth 32

/-- The encoding of a well-formed instruction has its row's match under its row's mask. -/
def TableRow.Statement (i : Instr) : Prop :=
  i.wellFormed Params.default = true → encodedBits (encode i) &&& (rowBits i).1 = (rowBits i).2

/-- Masking a command word masks its operand and its `OP`. -/
theorem commandWord_and (operand : BitVec 29) (op : BitVec 3) (m : BitVec 29) (k : BitVec 3) :
    commandWord operand op &&& (m ++ k : Word) = ((operand &&& m) ++ (op &&& k) : Word) :=
  BitVec.and_append

/-- An operand below `2 ^ n` has no bit at or above `n`. -/
theorem operand_high_bits {x : BitVec 29} {n i : Nat} (h : x.toNat < 2 ^ n) (hi : n ≤ i) : x.getLsbD i = false :=
  Nat.testBit_lt_two_pow (Nat.lt_of_lt_of_le h (Nat.pow_le_pow_right (by decide) hi))

theorem TableRow.init (limit : BitVec 29) : TableRow.Statement (.init limit) := by
  intro h
  have hl : limit.toNat < 2 ^ 16 := of_decide_eq_true h
  have hm : (0xFFF80007#32 : Word) = (0x1FFF0000#29 ++ 7#3 : Word) := by decide
  have hz : limit &&& 0x1FFF0000#29 = 0#29 := by
    apply BitVec.eq_of_getLsbD_eq
    intro i hi
    by_cases h16 : 16 ≤ i
    · simp [operand_high_bits hl h16]
    · have : ∀ j < 16, (0x1FFF0000#29).getLsbD j = false := by decide
      simp [this i (by omega)]
  simp only [Sys2Proof.encode, encodedBits, rowBits]
  rw [hm, commandWord_and, hz]
  decide

theorem TableRow.decode (chunk : List Byte) : TableRow.Statement (.decode chunk) := by
  intro _; show commandWord 0#29 1#3 &&& 0xFFFFFFFF#32 = 1#32; decide
theorem TableRow.tick : TableRow.Statement .tick := by intro _; decide
theorem TableRow.encode (payload : List Byte) : TableRow.Statement (.encode payload) := by
  intro _; show commandWord 0#29 3#3 &&& 0xFFFFFFFF#32 = 3#32; decide

theorem TableRow.escape (b : Byte) : TableRow.Statement (.escape b) := by
  intro _
  have hm : (0xFFFFF807#32 : Word) = (0x1FFFFF00#29 ++ 7#3 : Word) := by decide
  have hz : b.setWidth 29 &&& 0x1FFFFF00#29 = 0#29 := by
    apply BitVec.eq_of_getLsbD_eq
    intro i hi
    by_cases h8 : 8 ≤ i
    · simp [BitVec.getLsbD_of_ge b i h8]
    · have : ∀ j < 8, (0x1FFFFF00#29).getLsbD j = false := by decide
      simp [this i (by omega)]
  simp only [Sys2Proof.encode, encodedBits, rowBits]
  rw [hm, commandWord_and, hz]
  decide

/-- A row that fixes `OP` only. -/
theorem commandWord_op (operand : BitVec 29) (op : BitVec 3) :
    commandWord operand op &&& 7#32 = (0#29 ++ op : Word) := by
  have hm : (7#32 : Word) = (0#29 ++ 7#3 : Word) := by decide
  have hop : op &&& 7#3 = op := by decide +revert
  rw [hm, commandWord_and, hop]
  simp

theorem TableRow.read (n : BitVec 29) : TableRow.Statement (.read n) := fun _ => (commandWord_op n 5#3).trans (show (0#29 ++ 5#3 : Word) = 5#32 by decide)
theorem TableRow.reserved6 (rest : BitVec 29) : TableRow.Statement (.reserved6 rest) :=
  fun _ => (commandWord_op rest 6#3).trans (show (0#29 ++ 6#3 : Word) = 6#32 by decide)
theorem TableRow.reserved7 (rest : BitVec 29) : TableRow.Statement (.reserved7 rest) :=
  fun _ => (commandWord_op rest 7#3).trans (show (0#29 ++ 7#3 : Word) = 7#32 by decide)

theorem TableRow.rxEnd : TableRow.Statement .rxEnd := fun _ => by decide
theorem TableRow.rxEsc : TableRow.Statement .rxEsc := fun _ => by decide
theorem TableRow.rxData (d : Byte) : TableRow.Statement (.rxData d) := fun _ => BitVec.and_zero
theorem TableRow.rxDataEscEnd : TableRow.Statement .rxDataEscEnd := fun _ => by decide
theorem TableRow.rxDataEscEsc : TableRow.Statement .rxDataEscEsc := fun _ => by decide
theorem TableRow.rxDataEscBad (d : Byte) : TableRow.Statement (.rxDataEscBad d) := fun _ => BitVec.and_zero
theorem TableRow.escInEnd : TableRow.Statement .escInEnd := fun _ => by decide
theorem TableRow.escInEsc : TableRow.Statement .escInEsc := fun _ => by decide
theorem TableRow.escInPass (b : Byte) : TableRow.Statement (.escInPass b) := fun _ => BitVec.and_zero

end Sys2Proof.Laws
end

