-- ==== Sys2Proof/Tests/Slice0.lean ====
section
/-! SUPPORT. Tests of single steps with the expected results of spec/95_test_vectors.md (the vector's name stands before
each), decoding tests with that file's words, and for every obligation with hypotheses the states and operands that meet
them. -/

namespace Sys2Proof.Tests

open Sys2Proof.Machine

/-! ## Small states -/

/-- After hardware reset and `INIT 5` with parameters `p` (95 section 2.5), the results aside. -/
def live (p : Params) : State := { State.reset with params := p, timeoutLimit := 5, initialized := true }

/-- The vectors' defaults with another `CAP`. -/
def withCap (n : Nat) : Params := { Params.default with cap := n }

/-- The vectors' defaults under `Strict`. -/
def strictParams : Params := { Params.default with escapePolicy := .strict }

/-- The vectors' defaults under `Gated`. -/
def gatedParams : Params := { Params.default with tickGating := .gated }

/-- A frame in progress whose bytes are `xs`. -/
def receiving (p : Params) (xs : List Byte) : State :=
  { live p with
    isReceiving := true
    receivedCount := xs.length
    buf := (List.range xs.length).zip xs }

/-- After the OVERRUN of a byte (P3 of 95 section 3, byte `05`). -/
def dropping (p : Params) : State :=
  { live p with
    isReceiving := true
    discarding := true
    currentStatus := .bufferOverrun
    lastStatus := .bufferOverrun }

/-- An instance that a usage error has stopped (95, V-FLT-01). -/
def stopped : State := { State.reset with faulted := true, events := [.fault .decodeBeforeInit] }

/-- Two instances: one with a byte of a chunk to come, and one for which a reset is waiting and then `INIT 5`. -/
def twoUnits : Block where
  params := Params.default
  units := [{ live Params.default with rx := [0x41#8] },
    { stopped with inbox := [.hardwareReset, .command 0x28#32 []] }]

/-- What `f` sees in the next state, if there is one. -/
def seen {α : Type} (f : State → α) : Host.Outcome State Fault Refusal → Option α
  | .next t => some (f t)
  | .fault _ => none
  | .refused _ => none

/-- STATUS, as a number. -/
def status (s : State) : Nat := (registerValue s .status).toNat

/-! ## Ill-formed terms, one for each check of WellFormed -/

theorem test_wf_init_limit : (Instr.init 0x10000#29).wellFormed Params.default = false := by decide
theorem test_wf_init_largest : (Instr.init 0xFFFF#29).wellFormed Params.default = true := by decide
theorem test_wf_encode_length :
    (Instr.encode [1#8, 2#8]).wellFormed { Params.default with maxPayload := some 1 } = false := by decide
theorem test_wf_encode_at_length :
    (Instr.encode [1#8]).wellFormed { Params.default with maxPayload := some 1 } = true := by decide
theorem test_wf_rxData_end : (Instr.rxData 0xC0#8).wellFormed Params.default = false := by decide
theorem test_wf_rxData_esc : (Instr.rxData 0xDB#8).wellFormed Params.default = false := by decide
theorem test_wf_rxDataEscBad_end : (Instr.rxDataEscBad 0xC0#8).wellFormed Params.default = false := by decide
theorem test_wf_rxDataEscBad_esc : (Instr.rxDataEscBad 0xDB#8).wellFormed Params.default = false := by decide
theorem test_wf_rxDataEscBad_escEnd : (Instr.rxDataEscBad 0xDC#8).wellFormed Params.default = false := by decide
theorem test_wf_rxDataEscBad_escEsc : (Instr.rxDataEscBad 0xDD#8).wellFormed Params.default = false := by decide
theorem test_wf_escInPass_end : (Instr.escInPass 0xC0#8).wellFormed Params.default = false := by decide
theorem test_wf_escInPass_esc : (Instr.escInPass 0xDB#8).wellFormed Params.default = false := by decide

/-! ## Decoding: words written out bit by bit from 30_encoding R69 (operand in [31:3], `OP` in [2:0]) -/

theorem test_decode_init_word : decodeCommand Params.default (0b00000000000000000000000000101#29 ++ 0b000#3) []
    = .ok (.init 5#29) := by decide
theorem test_decode_decode_word : decodeCommand Params.default (0b00000000000000000000000000000#29 ++ 0b001#3) [0x41#8]
    = .ok (.decode [0x41#8]) := by decide
theorem test_decode_tick_word : decodeCommand Params.default (0b00000000000000000000000000000#29 ++ 0b010#3) []
    = .ok .tick := by decide
theorem test_decode_encode_word : decodeCommand Params.default (0b00000000000000000000000000000#29 ++ 0b011#3) [0x41#8]
    = .ok (.encode [0x41#8]) := by decide
theorem test_decode_escape_word : decodeCommand Params.default (0b00000000000000000000011000000#29 ++ 0b100#3) []
    = .ok (.escape 0xC0#8) := by decide
theorem test_decode_read_word : decodeCommand Params.default (0b00000000000000000000100001111#29 ++ 0b101#3) []
    = .ok (.read 0x10F#29) := by decide
theorem test_decode_reserved6_word : decodeCommand Params.default 0x00000006#32 [] = .ok (.reserved6 0#29) := by decide
theorem test_decode_reserved7_word : decodeCommand Params.default 0x00000007#32 [] = .ok (.reserved7 0#29) := by decide
theorem test_decode_list_behind_tick : decodeCommand Params.default 0x00000002#32 [1#8] = .error .strayByteList := by decide
theorem test_decode_rxEnd : decodeByte true 0b11000000#8 = .rxEnd := by decide
theorem test_decode_rxEsc : decodeByte true 0b11011011#8 = .rxEsc := by decide
theorem test_decode_rxData : decodeByte false 0b11011100#8 = .rxData 0xDC#8 := by decide
theorem test_decode_rxDataEscEnd : decodeByte true 0b11011100#8 = .rxDataEscEnd := by decide
theorem test_decode_rxDataEscEsc : decodeByte true 0b11011101#8 = .rxDataEscEsc := by decide
theorem test_decode_rxDataEscBad : decodeByte true 0b01000001#8 = .rxDataEscBad 0x41#8 := by decide
theorem test_decode_escInEnd : decodeCodec 0b11000000#8 = .escInEnd := by decide
theorem test_decode_escInEsc : decodeCodec 0b11011011#8 = .escInEsc := by decide
theorem test_decode_escInPass : decodeCodec 0b11011100#8 = .escInPass 0xDC#8 := by decide

/-- The first fetch after reset runs the placed word: INIT 5 (95 section 2.1) sets the limit. -/
theorem test_fetch_command :
    seen (·.timeoutLimit) (step (State.reset.withFetchWord 32 0x28)) = some 5 := by decide
/-- A received byte of the table is fetched as the row's: ESC_END with an escape pending stores END. -/
theorem test_fetch_received_byte :
    seen (·.buf) (step (State.reset.withFetchWord 8 0xDC)) = some [(0, 0xC0#8)] := by decide

/-! ## One step of each instruction -/

/-- V-DEC-22: `INIT 5` resets the fields and leaves `Buf`. -/
theorem test_init_keeps_the_buffer :
    seen (fun t => (status t, t.receivedCount, t.timeoutLimit, t.buf)) (exec (.init 5#29) (receiving Params.default [0x41#8, 0x58#8]))
      = some (0x100, 0, 5, [(0, 0x41#8), (1, 0x58#8)]) := by decide
/-- V-FLT-02: `INIT 3` has no effect on a faulted instance. -/
theorem test_init_faulted : exec (.init 3#29) stopped = .next stopped := rfl

/-- V-DEC-21: `DECODE []` after a Success. -/
theorem test_decode_empty :
    seen status (exec (.decode []) { live Params.default with currentStatus := .success, lastStatus := .success })
      = some 0x104 := by decide
/-- V-FLT-01: DECODE before INIT. -/
theorem test_decode_before_init :
    seen (fun t => (status t, t.events, t.rx)) (exec (.decode [0x41#8]) State.reset)
      = some (0x200, [.fault .decodeBeforeInit], []) := by decide

/-- V-TICK-01: the third TICK with limit 3. -/
theorem test_tick_times_out :
    seen (fun t => (status t, t.timeoutLimit, t.events, t.results))
        (exec .tick { receiving Params.default [1#8, 2#8, 3#8] with timeoutLimit := 3, timeoutCount := 2 })
      = some (0x100, 3, [.timedOut], [.ticked true]) := by decide
/-- V-TICK-10: a gated TICK ignores an ESC alone. -/
theorem test_tick_gated :
    seen (fun t => (status t, t.timeoutCount, t.results))
        (exec .tick { live gatedParams with timeoutLimit := 1, pendingEscape := true })
      = some (0x120, 0, [.ticked false]) := by decide

/-- V-ENC-04. -/
theorem test_encode_markers :
    seen (fun t => (t.sink, t.results)) (exec (.encode [0x01#8, 0xC0#8, 0xDB#8]) State.reset)
      = some ([[0x01#8], [0xDB#8, 0xDC#8], [0xDB#8, 0xDD#8], [0x5B#8], [0x72#8], [0xC0#8]], [.encoded true]) := by
  decide +kernel
/-- V-ENC-08: the low byte of the CRC is escaped. -/
theorem test_encode_escaped_crc :
    seen (·.sink) (exec (.encode [0xCC#8]) State.reset)
      = some [[0xCC#8], [0x18#8], [0xDB#8, 0xDC#8], [0xC0#8]] := by decide +kernel

/-- V-ESC-08: ESCAPE of END in a faulted instance. -/
theorem test_escape_faulted :
    exec (.escape 0xC0#8) stopped = .next { stopped with results := [.escaped [0xDB#8, 0xDC#8] 2] } := rfl
/-- V-ESC-05: `DC` is not escaped. -/
theorem test_escape_plain : seen (·.results) (exec (.escape 0xDC#8) State.reset) = some [.escaped [0xDC#8] 1] := by decide

/-- V-REG-04: STATUS of a frame in progress with an escape pending. -/
theorem test_read_status :
    seen (·.results) (exec (.read 0#29) { receiving Params.default [1#8, 0xC0#8] with pendingEscape := true })
      = some [.value 0x130#32] := by decide
/-- V-FLT-06: register 5 is not in the map. -/
theorem test_read_bad_register :
    seen (fun t => (t.faulted, t.events, t.results)) (exec (.read 5#29) (live Params.default))
      = some (true, [.fault .badRegister], []) := by decide

/-- Section 2.1: `0x00000006` is refused. -/
theorem test_reserved6 : step (State.reset.withFetchWord 32 6) = .refused .reservedOp6 := rfl
/-- Section 2.1: `0x00000007` is refused. -/
theorem test_reserved7 : step (State.reset.withFetchWord 32 7) = .refused .reservedOp7 := rfl

/-- V-DEC-02: the END of a good frame. -/
theorem test_end_delivers :
    seen (fun t => (status t, t.lastFrameLength, t.events)) (exec .rxEnd (receiving Params.default [0x41#8, 0x58#8, 0xE5#8]))
      = some (0x105, 3, [.frameDelivered 3 [0x41#8, 0x58#8, 0xE5#8]]) := by decide +kernel
/-- P3: the END of a discarded frame. -/
theorem test_end_discard : seen (fun t => (status t, t.events)) (exec .rxEnd (dropping (withCap 4))) = some (0x10F, []) := by
  decide

/-- V-TICK-09: an ESC alone. -/
theorem test_esc : seen status (exec .rxEsc (live Params.default)) = some 0x120 := by decide
/-- V-OVR-01: an ESC is dropped in discard mode. -/
theorem test_esc_dropped : exec .rxEsc (dropping (withCap 2)) = .next (dropping (withCap 2)) := rfl

/-- P3: the byte `05` overruns a buffer of 4. -/
theorem test_data_overruns :
    seen (fun t => (status t, t.receivedCount, t.buf)) (exec (.rxData 5#8) (receiving (withCap 4) [1#8, 2#8, 3#8, 4#8]))
      = some (0x15F, 0, [(0, 1#8), (1, 2#8), (2, 3#8), (3, 4#8)]) := by decide
/-- P7: the first byte of a frame resets the count. -/
theorem test_data_first :
    seen (fun t => (status t, t.receivedCount, t.timeoutCount)) (exec (.rxData 0x31#8) { live Params.default with timeoutCount := 1 })
      = some (0x110, 1, 0) := by decide

/-- V-TICK-11: the byte after the ESC is the first of the frame. -/
theorem test_escaped_end :
    seen (fun t => (status t, t.receivedCount, t.timeoutCount, t.buf))
        (exec .rxDataEscEnd { live Params.default with timeoutCount := 2, pendingEscape := true })
      = some (0x110, 1, 0, [(0, 0xC0#8)]) := by decide
/-- V-DEC-17: `DD` after an ESC is stored as `DB`. -/
theorem test_escaped_esc :
    seen (fun t => (status t, t.buf)) (exec .rxDataEscEsc { receiving Params.default [0x58#8] with pendingEscape := true })
      = some (0x110, [(0, 0x58#8), (1, 0xDB#8)]) := by decide
/-- V-DEC-15: a malformed escape under `Strict`. -/
theorem test_escaped_bad :
    seen (fun t => (status t, t.receivedCount, t.buf)) (exec (.rxDataEscBad 0x7A#8) { live strictParams with pendingEscape := true })
      = some (0x190, 1, [(0, 0xDB#8)]) := by decide
/-- V-OVR-08: the capacity check clears the malformed escape. -/
theorem test_escaped_bad_overruns :
    seen status (exec (.rxDataEscBad 0x41#8)
        { receiving { strictParams with cap := 2 } [1#8, 2#8] with pendingEscape := true })
      = some 0x15F := by decide

/-- Section 1.2. -/
theorem test_codec_end : seen (·.results) (exec .escInEnd State.reset) = some [.escaped [0xDB#8, 0xDC#8] 2] := by decide
/-- Section 1.2. -/
theorem test_codec_esc : seen (·.results) (exec .escInEsc State.reset) = some [.escaped [0xDB#8, 0xDD#8] 2] := by decide
/-- Section 1.2. -/
theorem test_codec_pass : seen (·.results) (exec (.escInPass 0x41#8) State.reset) = some [.escaped [0x41#8] 1] := by decide

/-- V-DEC-12: the four steps of `DECODE [DB DB DC]`. -/
theorem test_decode_steps :
    seen (fun t => (status t, t.buf, t.bytePos, t.results))
        (steps 4 { live Params.default with inbox := [.command 1#32 [0xDB#8, 0xDB#8, 0xDC#8]] })
      = some (0x110, [(0, 0xC0#8)], 3, [.decodeDone]) := by decide

/-! ## Witnesses: what meets the hypotheses of each obligation, clause by clause -/

/-- Decides the invariant of a concrete state, field by field. -/
theorem test_inv_reset : Inv State.reset := by constructor <;> decide
/-- Idle after `INIT 5`. -/
theorem test_inv_live : Inv (live Params.default) := by constructor <;> decide
/-- Idle with a buffer of `CAP` = 0. -/
theorem test_inv_live_cap0 : Inv (live (withCap 0)) := by constructor <;> decide
/-- Idle with a buffer of `CAP` = 3. -/
theorem test_inv_live_cap3 : Inv (live (withCap 3)) := by constructor <;> decide
/-- Receiving, with room. -/
theorem test_inv_receiving : Inv (receiving Params.default [0x41#8]) := by constructor <;> decide
/-- Receiving, the buffer full. -/
theorem test_inv_full : Inv (receiving (withCap 2) [0x41#8, 0x58#8]) := by constructor <;> decide
/-- Discarding. -/
theorem test_inv_dropping : Inv (dropping (withCap 2)) := by constructor <;> decide
/-- Faulted. -/
theorem test_inv_stopped : Inv stopped := by constructor <;> decide
/-- A byte of a chunk is next. -/
theorem test_inv_chunk : Inv { live Params.default with rx := [0x41#8] } := by constructor <;> decide

theorem test_witness_StepRunsDecodedInstruction :
    { live Params.default with rx := [0x41#8] }.rx = 0x41#8 :: [] ∧
    (let s := { State.reset with inbox := [.command 0x2#32 []] }
     s.rx = [] ∧ s.inbox = .command 0x2#32 [] :: [] ∧ decodeCommand s.params 0x2#32 [] = .ok .tick) ∧
    (let s := { State.reset with inbox := [.codecByte 0xC0#8] }
     s.rx = [] ∧ s.inbox = .codecByte 0xC0#8 :: []) := by decide

/-- A state after a reset input, taken while faulted, beside State.reset itself. -/
theorem test_witness_ResetStateIsTheResetColumn :
    let s := { stopped with inbox := [.hardwareReset] }
    s.rx = [] ∧ s.inbox = .hardwareReset :: [] ∧ ∃ t, step s = .next t := ⟨rfl, rfl, ⟨_, rfl⟩⟩
theorem test_witness_ResetBeginsANewRunAndWaitingChangesNothing :
    (let s := { stopped with inbox := [.hardwareReset] }
     s.rx = [] ∧ s.inbox = .hardwareReset :: []) ∧
    State.reset.rx = [] ∧ State.reset.inbox = [] := by decide
/-- The reset input stands in the inputs of one instance while the other has a chunk in progress. -/
theorem test_witness_ResetReachesEveryInstance :
    (∃ s, twoUnits.unit 1 = some s ∧ s.rx = [] ∧ s.inbox = .hardwareReset :: [.command 0x28#32 []]) ∧
    (∃ u, twoUnits.unit 0 = some u ∧ u.rx = [0x41#8]) ∧
    ∃ after, stepUnit 1 twoUnits = .next after ∧ (∃ t, after.unit 0 = some t) ∧ ∃ t, after.unit 1 = some t :=
  ⟨⟨_, rfl, rfl, rfl⟩, ⟨_, rfl, rfl⟩, ⟨_, rfl, ⟨_, rfl⟩, ⟨_, rfl⟩⟩⟩

/-- The boundary words: both reserved codes, the lowest unused bit of the words with none used, `b` = 2^8 and `L` = 2^16. -/
theorem test_witness_ReservedWordsAreRefused :
    (let s := { State.reset with inbox := [.command 0x6#32 []] }
     s.rx = [] ∧ s.inbox = .command 0x6#32 [] :: [] ∧ (0x6#32).extractLsb' 0 3 = 6#3) ∧
    (0x7#32).extractLsb' 0 3 = 7#3 ∧
    ((0x9#32).extractLsb' 0 3 = 1#3 ∧ (0x9#32).extractLsb' 3 29 ≠ 0#29) ∧
    ((0xA#32).extractLsb' 0 3 = 2#3 ∧ (0xA#32).extractLsb' 3 29 ≠ 0#29) ∧
    ((0xB#32).extractLsb' 0 3 = 3#3 ∧ (0xB#32).extractLsb' 3 29 ≠ 0#29) ∧
    ((0x804#32).extractLsb' 0 3 = 4#3 ∧ 2 ^ 8 ≤ ((0x804#32).extractLsb' 3 29).toNat) ∧
    ((0x80000#32).extractLsb' 0 3 = 0#3 ∧ 2 ^ State.reset.params.timeoutW ≤ ((0x80000#32).extractLsb' 3 29).toNat) := by
  decide

/-- Every constructor, its operand at a boundary. -/
theorem test_witness_DecodeOfEncode :
    [Instr.init 0xFFFF#29, .decode [0xFF#8], .tick, .encode [], .escape 0xFF#8, .read 0x1FFFFFFF#29, .reserved6 0x1FFFFFFF#29,
      .reserved7 0#29, .rxEnd, .rxEsc, .escInEnd, .escInEsc, .escInPass 0xFF#8].all
        (fun i => i.wellFormed Params.default && contextFits false i && contextFits true i) = true ∧
    [Instr.rxData 0xDC#8].all (fun i => i.wellFormed Params.default && contextFits false i) = true ∧
    [Instr.rxDataEscEnd, .rxDataEscEsc, .rxDataEscBad 0xFF#8].all
        (fun i => i.wellFormed Params.default && contextFits true i) = true := by decide

theorem test_witness_EncodeOfDecode :
    decode Params.default true (.rxByte 0x41#8) = .ok (.rxDataEscBad 0x41#8) ∧
    decode { Params.default with maxPayload := some 0 } false (.command 3#32 [1#8]) = .ok (.encode [1#8]) := by decide

theorem test_witness_EscapeReturnsItsSequence : 0xDC#8 ≠ 0xC0#8 ∧ 0xDC#8 ≠ 0xDB#8 := by decide
theorem test_witness_CodecClassesReturnTheirSequence : 0xBF#8 ≠ 0xC0#8 ∧ 0xBF#8 ≠ 0xDB#8 := by decide

/-- A payload exactly `MAX_PAYLOAD` long. -/
theorem test_witness_EncodeStreamsTheFrame :
    ∀ most, ({ State.reset with params := { Params.default with maxPayload := some 2 } }).params.maxPayload = some most →
      [1#8, 2#8].length ≤ most := by
  intro most h
  cases h
  decide

theorem test_witness_EscapedListIsMarkerSafe : escapeList [1#8, 0xC0#8] = [1#8] ++ 0xDB#8 :: [0xDC#8] := by decide
theorem test_witness_EscapeListIsInjective : escapeList [0xDB#8, 0xDC#8] = escapeList [0xDB#8, 0xDC#8] := rfl
theorem test_witness_CrcParameterIsEveryLawfulFunction :
    ∀ p : List Byte, (fun _ => 0#16) (p ++ trailer ((fun _ : List Byte => 0#16) p)) = 0#16 := fun _ => rfl

theorem test_witness_InitResetsTheInstance :
    (receiving Params.default [0x41#8]).faulted = false ∧ stopped.faulted = true := by decide
theorem test_witness_DecodeEntersItsChunk :
    (live Params.default).faulted = false ∧ (live Params.default).initialized = true := by decide
/-- The entry of a live instance, and of one before INIT. -/
theorem test_witness_DecodeRunsItsChunk :
    (let s := { live Params.default with inbox := [.command 0x00000001#32 [0xC0#8]] }
     s.faulted = false ∧ s.rx = [] ∧ s.inbox = .command 0x00000001#32 [0xC0#8] :: [] ∧ s.initialized = true) ∧
    (let s := { State.reset with inbox := [.command 0x00000001#32 [0xC0#8]] }
     s.faulted = false ∧ s.rx = [] ∧ s.inbox = .command 0x00000001#32 [0xC0#8] :: [] ∧ s.initialized = false) := by decide

/-- The boundary numbers: 5 and 0xFF below the buffer's registers, 0x110 and the largest above them when `CAP` = 16. -/
theorem test_witness_UsageErrorsAreTaken :
    (State.reset.faulted = false ∧ State.reset.initialized = false) ∧
    [5#29, 0xFF#29, 0x110#29, 0x1FFFFFFF#29].all (fun n => decide (5 ≤ n.toNat ∧
      (n.toNat < 0x100 ∨ 0x100 + State.reset.params.cap ≤ n.toNat))) = true := by decide

/-- A command that has no step, the encoder's two, and a reset. -/
theorem test_witness_FaultedInstanceTakesNoStep :
    stopped.faulted = true ∧ isDecoderStep (.init 3#29) = true ∧
    (∃ t, exec (.encode []) { stopped with faulted := false } = .next t) ∧
    (∃ t, exec (.escape 0xC0#8) { stopped with faulted := false } = .next t) ∧
    (∃ t, step { stopped with inbox := [.command 0x18#32 []] } = .next t) ∧
    (∃ t, step { stopped with inbox := [.hardwareReset] } = .next t) := ⟨rfl, rfl, ⟨_, rfl⟩, ⟨_, rfl⟩, ⟨_, rfl⟩, ⟨_, rfl⟩⟩

/-- A good frame that fills the buffer, one with a nonzero residue, one with a malformed escape under `Strict`, an aborted one. -/
theorem test_witness_EndClosesAndChecksTheFrame :
    (let s := receiving (withCap 3) [0x41#8, 0x58#8, 0xE5#8]
     s.faulted = false ∧ s.discarding = false ∧ s.receivedCount ≤ s.params.cap ∧
      (s.badEscape = false ∧ crc16 s.params.crc ((List.range s.receivedCount).map s.bufByte) = 0#16)) ∧
    (let s := receiving Params.default [0x41#8, 0x58#8, 0xE4#8]
     s.faulted = false ∧ s.discarding = false ∧ s.receivedCount ≤ s.params.cap ∧
      ¬(s.badEscape = false ∧ crc16 s.params.crc ((List.range s.receivedCount).map s.bufByte) = 0#16)) ∧
    (let s := { receiving strictParams [] with badEscape := true }
     s.faulted = false ∧ s.discarding = false ∧ s.receivedCount ≤ s.params.cap ∧
      ¬(s.badEscape = false ∧ crc16 s.params.crc ((List.range s.receivedCount).map s.bufByte) = 0#16)) ∧
    ((dropping (withCap 2)).faulted = false ∧ (dropping (withCap 2)).discarding = true) := by
  decide +kernel

theorem test_witness_EscSetsPendingEscape :
    (live Params.default).faulted = false ∧ (live Params.default).discarding = false := by decide

/-- With room: the first byte of a frame and the last that fits, with no escape pending and with one; the nearest bytes to the
excluded ones. With none: no capacity at all, and a full buffer; each DATA row. -/
theorem test_witness_DataStepStoresOrOverruns :
    [live (withCap 2), receiving (withCap 2) [0x41#8]].all (fun s => !s.faulted && !s.discarding &&
      decide (s.receivedCount < s.params.cap) && !s.pendingEscape) = true ∧
    [{ live (withCap 2) with pendingEscape := true }, { receiving { strictParams with cap := 2 } [0x41#8] with pendingEscape := true }].all
      (fun s => !s.faulted && !s.discarding && decide (s.receivedCount < s.params.cap) && s.pendingEscape) = true ∧
    [0xBF#8, 0xC1#8, 0xDA#8, 0xDE#8].all (fun d => d != 0xC0#8 && d != 0xDB#8 && d != 0xDC#8 && d != 0xDD#8) = true ∧
    [live (withCap 0), receiving (withCap 2) [0x41#8, 0x58#8]].all (fun s => !s.faulted && !s.discarding &&
      decide (s.params.cap ≤ s.receivedCount)) = true ∧
    dataByteOf (.rxData 0x41#8) = some 0x41#8 ∧ dataByteOf .rxDataEscEnd = some 0xDC#8 ∧
    dataByteOf .rxDataEscEsc = some 0xDD#8 ∧ dataByteOf (.rxDataEscBad 0x41#8) = some 0x41#8 := by decide
theorem test_witness_DiscardModeDropsBytes :
    (dropping (withCap 2)).discarding = true ∧ dataByteOf (.rxData 0x41#8) = some 0x41#8 ∧
      (dropping (withCap 2)).faulted = false := by decide
theorem test_witness_ByteStepSelection : (live Params.default).faulted = false := rfl

/-- A list that fills the buffer. -/
theorem test_witness_UnescapeRecoversTheBytes :
    let s := live (withCap 3)
    s.faulted = false ∧ s.discarding = false ∧ s.pendingEscape = false ∧ s.receivedCount = 0 ∧
      [0xC0#8, 0xDB#8, 0x41#8].length ≤ s.params.cap := by decide

/-- The payload `[41]`, whose frame of 3 bytes fills the buffer, split inside the frame; and with an empty chunk behind. -/
theorem test_witness_RoundTripDeliversThePayload :
    Inv (live (withCap 3)) ∧
    (let s := live (withCap 3)
     controlState s = .idle ∧ s.pendingEscape = false ∧ [0x41#8].length + 2 ≤ s.params.cap ∧
      [[0x41#8], [], [0x58#8], [0xE5#8, 0xC0#8]].flatten = wire s.params.crc [0x41#8] ∧
      [[0x41#8, 0x58#8, 0xE5#8, 0xC0#8], []].flatten = wire s.params.crc [0x41#8]) :=
  ⟨test_inv_live_cap3, by decide +kernel⟩
/-- One byte too long, and no capacity at all. -/
theorem test_witness_OversizedFrameIsDiscarded :
    (Inv (live (withCap 3)) ∧ controlState (live (withCap 3)) = .idle ∧ (live (withCap 3)).pendingEscape = false ∧
      (live (withCap 3)).params.cap < [0xAA#8, 0x55#8].length + 2) ∧
    (Inv (live (withCap 0)) ∧ controlState (live (withCap 0)) = .idle ∧ (live (withCap 0)).pendingEscape = false ∧
      (live (withCap 0)).params.cap < ([] : List Byte).length + 2) :=
  ⟨⟨test_inv_live_cap3, by decide⟩, ⟨test_inv_live_cap0, by decide⟩⟩
theorem test_witness_ChunkBoundariesDoNotMatter :
    ∃ t, decodeChunk [[0xDB#8], [0xDC#8]].flatten (live Params.default) = .next t := ⟨_, rfl⟩
/-- A chunk that writes no status, and one that does; and the later of two statuses counts (V-DEC-05, V-DEC-08). -/
theorem test_witness_StatusAfterDecode :
    (∃ t, decodeChunk [0x41#8] (live Params.default) = .next t ∧ t.currentStatus = .decoding) ∧
    (∃ t, decodeChunk [0x41#8] (live (withCap 0)) = .next t ∧ t.currentStatus = .bufferOverrun) ∧
    statusWritten [0x41#8] (live Params.default) = none ∧
    statusWritten [0xC0#8, 0x01#8, 0xC0#8] (live Params.default) = some .frameError :=
  ⟨⟨_, rfl, rfl⟩, ⟨_, rfl, rfl⟩, by decide +kernel, by decide +kernel⟩

/-- One state of each control state, and a step from it for each clause. -/
theorem test_witness_ControlStateTransitions :
    (Inv State.reset ∧ controlState State.reset = .uninitialized ∧ (∃ t, exec (.init 5#29) State.reset = .next t) ∧
      (∃ t, exec .tick State.reset = .next t) ∧ ∃ t, exec (.decode []) State.reset = .next t) ∧
    (Inv (live Params.default) ∧ controlState (live Params.default) = .idle ∧
      (∃ t, exec (.rxData 0x41#8) (live Params.default) = .next t) ∧ (∃ t, exec .rxEsc (live Params.default) = .next t) ∧
      ∃ t, exec .tick { live Params.default with timeoutCount := 4 } = .next t ∧ t.events = [.timedOut]) ∧
    (Inv (live (withCap 0)) ∧ controlState (live (withCap 0)) = .idle) ∧
    (Inv (receiving Params.default [0x41#8]) ∧ controlState (receiving Params.default [0x41#8]) = .receiving ∧
      ∃ t, exec .rxEsc (receiving Params.default [0x41#8]) = .next t) ∧
    (Inv (receiving (withCap 2) [0x41#8, 0x58#8]) ∧ controlState (receiving (withCap 2) [0x41#8, 0x58#8]) = .receiving ∧
      ∃ t, exec (.rxData 0xE5#8) (receiving (withCap 2) [0x41#8, 0x58#8]) = .next t) ∧
    (Inv (dropping (withCap 2)) ∧ controlState (dropping (withCap 2)) = .discarding ∧
      ∃ t, exec .rxEnd (dropping (withCap 2)) = .next t) :=
  ⟨⟨test_inv_reset, rfl, ⟨_, rfl⟩, ⟨_, rfl⟩, ⟨_, rfl⟩⟩,
    ⟨test_inv_live, rfl, ⟨_, rfl⟩, ⟨_, rfl⟩, ⟨_, rfl, rfl⟩⟩, ⟨test_inv_live_cap0, rfl⟩,
    ⟨test_inv_receiving, rfl, ⟨_, rfl⟩⟩, ⟨test_inv_full, rfl, ⟨_, rfl⟩⟩, ⟨test_inv_dropping, rfl, ⟨_, rfl⟩⟩⟩

/-- Before INIT; gated and idle; one below the limit; at the limit; a limit of 0. -/
theorem test_witness_TickCountsOrTimesOut :
    (State.reset.faulted = false ∧ State.reset.initialized = false) ∧
    ((live gatedParams).faulted = false ∧ (live gatedParams).initialized = true ∧
      (live gatedParams).params.tickGating = .gated ∧ (live gatedParams).isReceiving = false) ∧
    ((live Params.default).params.tickGating = .ungated ∧ (receiving gatedParams [0x41#8]).isReceiving = true) ∧
    (3 + 1 < (live Params.default).timeoutLimit ∧ (live Params.default).timeoutLimit ≤ 4 + 1) ∧
    { live Params.default with timeoutLimit := 0 }.timeoutLimit ≤ 0 + 1 := by decide
theorem test_witness_TheLimitthTickTimesOut :
    let s := { live Params.default with timeoutLimit := 1 }
    s.faulted = false ∧ s.initialized = true ∧ s.timeoutCount = 0 ∧ 1 ≤ s.timeoutLimit ∧
      (s.params.tickGating = .ungated ∨ s.isReceiving = true) := by decide
theorem test_witness_TimeoutRecovers :
    (Inv (receiving Params.default [0x41#8]) ∧ controlState (receiving Params.default [0x41#8]) = .receiving) ∧
    (Inv (dropping (withCap 2)) ∧ controlState (dropping (withCap 2)) = .discarding) :=
  ⟨⟨test_inv_receiving, rfl⟩, ⟨test_inv_dropping, rfl⟩⟩
/-- The first DATA byte of a frame, and a later one. -/
theorem test_witness_OnlyTheFirstDataByteRestartsTheCount :
    (∃ t, byteStep 0x41#8 { live Params.default with timeoutCount := 2 } = .next t ∧ t.timeoutCount = 0) ∧
    (∃ t, byteStep 0x58#8 { receiving Params.default [0x41#8] with timeoutCount := 2 } = .next t ∧ t.timeoutCount = 2) :=
  ⟨⟨_, rfl, rfl⟩, ⟨_, rfl, rfl⟩⟩

/-- The first and the last register of the buffer, written and not; the nearest numbers outside the map. -/
theorem test_witness_ReadReturnsTheRegister :
    let s := { live (withCap 2) with buf := [(0, 0x41#8), (1, 0x58#8)] }
    s.faulted = false ∧
    (0x100 ≤ (0x100#29).toNat ∧ (0x100#29).toNat < 0x100 + s.params.cap ∧ Memory.read s.buf ((0x100#29).toNat - 0x100) = some 0x41#8) ∧
    (0x100 ≤ (0x101#29).toNat ∧ (0x101#29).toNat < 0x100 + s.params.cap ∧ Memory.read s.buf ((0x101#29).toNat - 0x100) = some 0x58#8) ∧
    [0x100#29, 0x101#29].all (fun n => decide (0x100 ≤ n.toNat ∧ n.toNat < 0x100 + (live (withCap 2)).params.cap ∧
      Memory.read (live (withCap 2)).buf (n.toNat - 0x100) = none)) = true ∧
    [5#29, 0xFF#29, 0x102#29].all (fun n => decide (5 ≤ n.toNat ∧
      (n.toNat < 0x100 ∨ 0x100 + s.params.cap ≤ n.toNat))) = true := by
  decide
/-- V-REG-02: `BUF[15]` after hardware reset. -/
theorem test_witness_ReadOfAnUnwrittenByte :
    State.reset.faulted = false ∧ 0x100 ≤ (0x10F#29).toNat ∧ (0x10F#29).toNat < 0x100 + State.reset.params.cap ∧
      Memory.read State.reset.buf ((0x10F#29).toNat - 0x100) = none := by decide

theorem test_witness_EncoderLeavesTheInstanceAlone :
    (∃ t, exec (.encode []) stopped = .next t) ∧ (∃ t, exec .escInEnd stopped = .next t) ∧
    (∃ t, exec .escInEsc stopped = .next t) ∧ (∃ t, exec (.escInPass 0x41#8) stopped = .next t) ∧
    (∃ t, exec (.escape 0xC0#8) stopped = .next t) := ⟨⟨_, rfl⟩, ⟨_, rfl⟩, ⟨_, rfl⟩, ⟨_, rfl⟩, ⟨_, rfl⟩⟩
theorem test_witness_CommandFrames :
    (∃ t, exec (.init 5#29) State.reset = .next t) ∧ (∃ t, exec (.decode [0x41#8]) (live Params.default) = .next t) ∧
    (∃ t, exec .tick (live Params.default) = .next t) ∧ (∃ t, exec (.read 0x10F#29) (live Params.default) = .next t) :=
  ⟨⟨_, rfl⟩, ⟨_, rfl⟩, ⟨_, rfl⟩, ⟨_, rfl⟩⟩
theorem test_witness_ByteStepFrames :
    (∃ t, exec .rxEnd (live Params.default) = .next t) ∧ (∃ t, exec .rxEsc (live Params.default) = .next t) ∧
    (∃ t, exec (.rxData 0x41#8) (live Params.default) = .next t) ∧ dataByteOf (.rxData 0x41#8) = some 0x41#8 :=
  ⟨⟨_, rfl⟩, ⟨_, rfl⟩, ⟨_, rfl⟩, rfl⟩
theorem test_witness_OnlyDataStepsWriteTheBuffer :
    (∃ t, exec .rxEnd (live Params.default) = .next t) ∧ dataByteOf .rxEnd = none ∧
    (∃ t, exec (.rxData 0xE5#8) (receiving (withCap 2) [0x41#8, 0x58#8]) = .next t) := ⟨⟨_, rfl⟩, rfl, ⟨_, rfl⟩⟩
theorem test_witness_OnlyInitSetsTheLimit :
    (∀ limit, Instr.tick ≠ .init limit) ∧ ∃ t, exec .tick (live Params.default) = .next t :=
  ⟨fun _ h => (by cases h), ⟨_, rfl⟩⟩

/-- A byte of a chunk, a command, a usage error and waiting, each from a state with the invariant. -/
theorem test_witness_EveryStepKeepsTheInvariant :
    (Inv { live Params.default with rx := [0x41#8] } ∧ ∃ t, step { live Params.default with rx := [0x41#8] } = .next t) ∧
    (Inv State.reset ∧ ∃ t, step State.reset = .next t) := ⟨⟨test_inv_chunk, ⟨_, rfl⟩⟩, ⟨test_inv_reset, ⟨_, rfl⟩⟩⟩
theorem test_witness_NoStepFaultsUnderTheInvariant : Inv (receiving (withCap 2) [0x41#8, 0x58#8]) := test_inv_full
/-- The first and the last byte of `Buf`, unwritten; a step that draws; a step of a block that resets both its instances. -/
theorem test_witness_NoDrawIsUsedTwice :
    [0x100#29, 0x10F#29].all (fun n => !State.reset.faulted && decide (0x100 ≤ n.toNat ∧
      n.toNat < 0x100 + State.reset.params.cap ∧ Memory.read State.reset.buf (n.toNat - 0x100) = none)) = true ∧
    (∃ t, step { State.reset with inbox := [.command 0x87D#32 []] } = .next t ∧ t.draws = 1) ∧
    (∃ after, stepUnit 1 twoUnits = .next after ∧ (∃ s, twoUnits.unit 0 = some s) ∧ ∃ t, after.unit 0 = some t) ∧
    ∃ s, twoUnits.unit 1 = some s ∧ s.number = s.number :=
  ⟨by decide, ⟨_, rfl, rfl⟩, ⟨_, rfl, ⟨_, rfl⟩, ⟨_, rfl⟩⟩, ⟨_, rfl, rfl⟩⟩
theorem test_witness_ParametersAreFixed : ∃ t, step { State.reset with inbox := [.hardwareReset] } = .next t := ⟨_, rfl⟩
theorem test_witness_NothingFallsInsideADecode :
    let s := { live Params.default with rx := [0x41#8], inbox := [.command 2#32 []] }
    s.rx ≠ [] ∧ ∃ t, step s = .next t := ⟨(by decide), ⟨_, rfl⟩⟩
theorem test_witness_TheEncodersTracesAreNeverRead :
    (∃ u, exec (.encode []) State.reset = .next u) ∧ ∃ t, exec .tick State.reset = .next t := ⟨⟨_, rfl⟩, ⟨_, rfl⟩⟩
theorem test_witness_FreeValuesReachOnlyRead :
    Inv (receiving Params.default [0x41#8]) ∧ (∀ n, Instr.rxEnd ≠ .read n) ∧
      ∃ t, exec .rxEnd (receiving Params.default [0x41#8]) = .next t := ⟨test_inv_receiving, fun _ h => (by cases h), ⟨_, rfl⟩⟩
theorem test_witness_InstancesShareNothing :
    (∃ s, twoUnits.unit 0 = some s ∧ ¬(s.rx = [] ∧ ∃ more, s.inbox = .hardwareReset :: more)) ∧
    ∃ after, stepUnit 0 twoUnits = .next after := ⟨⟨_, rfl, fun h => (by cases h.1)⟩, ⟨_, rfl⟩⟩

end Sys2Proof.Tests
end

/-! The encodings (30_encoding): reserved command words, the rows of a received byte, the frame on the wire. -/

namespace Sys2Proof.Encoding

open Sys2Proof.Machine

/-- A step refuses the command at the head of the inbox when every instruction that it can name is refused: a word that names
no instruction is one such command. -/
theorem step_command_refused {s : State} {w : Word} {bytes : List Byte} {more : List Input} (hrx : s.rx = [])
    (hin : s.inbox = .command w bytes :: more)
    (hno : ∀ i, decodeCommand s.params w bytes = .ok i → ∃ r, exec i s.takeInput = .refused r) :
    ∃ r, step s = .refused r := by
  simp only [step, fetch, hrx, hin, fetchInput]
  rcases hd : decodeCommand s.params w bytes with why | i
  · exact ⟨rejection why, rfl⟩
  · exact hno i hd

theorem exec_reserved6 (rest : BitVec 29) (s : State) : exec (.reserved6 rest) s = .refused .reservedOp6 := rfl

theorem exec_reserved7 (rest : BitVec 29) (s : State) : exec (.reserved7 rest) s = .refused .reservedOp7 := rfl

/-! Which words the decoder rejects, and what the two reserved `OP` values name. -/

/-- A nonzero unused bit is reported whatever the byte list is. -/
theorem plainCommand_unused {unusedZero : Bool} (h : unusedZero = false) (bytes : List Byte) (i : Instr) :
    plainCommand unusedZero bytes i = .error .unusedBits := by simp [plainCommand, h]

/-- DECODE, TICK and ENCODE use no bit above `OP` (30_encoding R69). -/
theorem decodeCommand_of_unused_operand (p : Params) {w : Word} (bytes : List Byte)
    (hop : opField w = 1#3 ∨ opField w = 2#3 ∨ opField w = 3#3) (h : operandField w ≠ 0#29) :
    decodeCommand p w bytes = .error .unusedBits := by
  rcases hop with hop | hop | hop
  · simp [decodeCommand, hop, h]
  · simp [decodeCommand, hop, plainCommand_unused, h]
  · simp [decodeCommand, hop, h]

/-- ESCAPE uses the low 8 bits of the operand (30_encoding R69). -/
theorem decodeCommand_escape_unused (p : Params) {w : Word} (bytes : List Byte) (hop : opField w = 4#3)
    (h : 2 ^ 8 ≤ (operandField w).toNat) : decodeCommand p w bytes = .error .unusedBits := by
  simp only [decodeCommand, hop]
  exact plainCommand_unused (decide_eq_false (Nat.not_lt.2 h)) bytes _

/-- INIT uses the low `TIMEOUT_W` bits of the operand (30_encoding R69). -/
theorem decodeCommand_init_unused (p : Params) {w : Word} (bytes : List Byte) (hop : opField w = 0#3)
    (h : 2 ^ p.timeoutW ≤ (operandField w).toNat) : decodeCommand p w bytes = .error .unusedBits := by
  simp only [decodeCommand, hop]
  exact plainCommand_unused (decide_eq_false (Nat.not_lt.2 h)) bytes _

/-- An accepted word with `OP` 6 is the reserved row, whatever its other bits (30_encoding R71). -/
theorem decodeCommand_op6 {p : Params} {w : Word} {bytes : List Byte} {i : Instr} (hop : opField w = 6#3)
    (h : decodeCommand p w bytes = .ok i) : i = .reserved6 (operandField w) := by
  simp only [decodeCommand, hop] at h
  exact (plainCommand_ok.1 h).2.2

/-- An accepted word with `OP` 7 is the reserved row, whatever its other bits (30_encoding R71). -/
theorem decodeCommand_op7 {p : Params} {w : Word} {bytes : List Byte} {i : Instr} (hop : opField w = 7#3)
    (h : decodeCommand p w bytes = .ok i) : i = .reserved7 (operandField w) := by
  simp only [decodeCommand, hop] at h
  exact (plainCommand_ok.1 h).2.2

/-- Settles O5: a word with `OP` 6 or 7 names a reserved row or nothing; a word with a nonzero unused bit names nothing. -/
theorem reservedWordsAreRefused : Obligations.ReservedWordsAreRefused := by
  refine ⟨fun s w bytes more hrx hin hw => step_command_refused hrx hin fun i hi => ?_, fun s rest =>
    ⟨exec_reserved6 rest s, exec_reserved7 rest s⟩⟩
  have rejected (h : decodeCommand s.params w bytes = .error .unusedBits) : ∃ r, exec i s.takeInput = .refused r := by
    cases h.symm.trans hi
  rcases hw with (h6 | h7) | ⟨hop, hbits⟩ | ⟨hop, hbits⟩ | ⟨hop, hbits⟩
  · exact ⟨_, decodeCommand_op6 h6 hi ▸ exec_reserved6 _ _⟩
  · exact ⟨_, decodeCommand_op7 h7 hi ▸ exec_reserved7 _ _⟩
  · exact rejected (decodeCommand_of_unused_operand _ _ hop hbits)
  · exact rejected (decodeCommand_escape_unused _ _ hop hbits)
  · exact rejected (decodeCommand_init_unused _ _ hop hbits)

/-! The rows of a received byte. -/

/-- With no escape pending, ESC_END and ESC_ESC are data like any other byte (30_encoding R64). -/
theorem decodeByte_data {b : Byte} (hEnd : b ≠ 0xC0#8) (hEsc : b ≠ 0xDB#8) : decodeByte false b = .rxData b := by
  simp [decodeByte, hEnd, hEsc]

/-- With an escape pending, a byte that is none of the four wire constants is a malformed escape (30_encoding R65). -/
theorem decodeByte_escBad {b : Byte} (hEnd : b ≠ 0xC0#8) (hEsc : b ≠ 0xDB#8) (hEscEnd : b ≠ 0xDC#8)
    (hEscEsc : b ≠ 0xDD#8) : decodeByte true b = .rxDataEscBad b := by
  simp [decodeByte, hEnd, hEsc, hEscEnd, hEscEsc]

/-- The row of a received byte: END and ESC whatever is pending, any other byte by the pending escape (30_encoding R64, R65). -/
theorem decodeByte_rows (pe : Bool) (b : Byte) :
    (b = 0xC0#8 ∧ decodeByte pe b = .rxEnd) ∨ (b = 0xDB#8 ∧ decodeByte pe b = .rxEsc) ∨
    (b ≠ 0xC0#8 ∧ b ≠ 0xDB#8 ∧ pe = false ∧ decodeByte pe b = .rxData b) ∨
    (b = 0xDC#8 ∧ pe = true ∧ decodeByte pe b = .rxDataEscEnd) ∨
    (b = 0xDD#8 ∧ pe = true ∧ decodeByte pe b = .rxDataEscEsc) ∨
    (b ≠ 0xC0#8 ∧ b ≠ 0xDB#8 ∧ b ≠ 0xDC#8 ∧ b ≠ 0xDD#8 ∧ pe = true ∧ decodeByte pe b = .rxDataEscBad b) := by
  by_cases hEnd : b = 0xC0#8
  · exact .inl ⟨hEnd, hEnd ▸ rfl⟩
  by_cases hEsc : b = 0xDB#8
  · exact .inr (.inl ⟨hEsc, hEsc ▸ rfl⟩)
  refine .inr (.inr ?_)
  cases pe with
  | false => exact .inl ⟨hEnd, hEsc, rfl, decodeByte_data hEnd hEsc⟩
  | true =>
    by_cases hEscEnd : b = 0xDC#8
    · exact .inr (.inl ⟨hEscEnd, rfl, hEscEnd ▸ rfl⟩)
    by_cases hEscEsc : b = 0xDD#8
    · exact .inr (.inr (.inl ⟨hEscEsc, rfl, hEscEsc ▸ rfl⟩))
    exact .inr (.inr (.inr ⟨hEnd, hEsc, hEscEnd, hEscEsc, rfl, decodeByte_escBad hEnd hEsc hEscEnd hEscEsc⟩))

/-- Settles O9: the rows of `decodeByte_rows` exclude each other, so each one determines every `↔`. -/
theorem receivedByteClasses : Obligations.ReceivedByteClasses := by
  intro pe b
  rcases decodeByte_rows pe b with ⟨rfl, hrow⟩ | ⟨rfl, hrow⟩ | ⟨hEnd, hEsc, rfl, hrow⟩ | ⟨rfl, rfl, hrow⟩ |
    ⟨rfl, rfl, hrow⟩ | ⟨hEnd, hEsc, hEscEnd, hEscEsc, rfl, hrow⟩
  · simp [hrow]
  · simp [hrow]
  · simp [hrow, hEnd, hEsc]
  · simp [hrow]
  · simp [hrow]
  · simp [hrow, hEnd, hEsc, hEscEnd, hEscEsc]

/-! The wire. -/

/-- The groups of ENCODE put the escaped unescaped frame (30_encoding R63) and one raw END on the wire. -/
theorem wireGroups_flatten (f : CrcFunction) (payload : List Byte) :
    (wireGroups f payload).flatten = escapeList (unescapedFrame f payload) ++ [wireEnd] := by
  simp [wireGroups, unescapedFrame, escapeList, List.flatMap]

/-- The escaped trailer is the escaped high byte of the CRC, then the escaped low byte. -/
theorem escapeList_trailer (c : BitVec 16) : escapeList (trailer c) = escapeByte (crcHigh c) ++ escapeByte (crcLow c) := by
  simp [trailer]

/-- Settles O14, from the unescaped frame: its payload and its trailer are escaped one after the other. -/
theorem wireFrameLayout : Obligations.WireFrameLayout := by
  intro f payload
  calc (wireGroups f payload).flatten
      = escapeList (unescapedFrame f payload) ++ [wireEnd] := wireGroups_flatten f payload
    _ = escapeList payload ++ (escapeByte (crcHigh (crc16 f payload)) ++ escapeByte (crcLow (crc16 f payload))) ++
          [wireEnd] := by rw [unescapedFrame, escapeList_append, escapeList_trailer]
    _ = _ := by rw [← List.append_assoc]; rfl

end Sys2Proof.Encoding

/-! The escape codec (40_escape_codec): what the ESCAPE command returns. -/

namespace Sys2Proof.EscapeCodec

open Sys2Proof.Machine

/-- ESCAPE tests no field of the instance: it always completes, and appends one result (40_escape_codec R75). -/
theorem exec_escape (b : Byte) (s : State) :
    exec (.escape b) s =
      .next { s with results := s.results ++ [.escaped (escapeByte b) (escapeByte b).length] } := rfl

/-- Settles O10: the result of `exec_escape` in each class of R74, END, ESC and any other byte. -/
theorem escapeReturnsItsSequence : Obligations.EscapeReturnsItsSequence := by
  intro s
  refine ⟨?atEnd, ?atEsc, fun b hEnd hEsc => ?other⟩
  case atEnd => rw [exec_escape, escapeByte_end]; rfl
  case atEsc => rw [exec_escape, escapeByte_esc]; rfl
  case other => rw [exec_escape, escapeByte_other hEnd hEsc]; rfl

end Sys2Proof.EscapeCodec

/-! The decoder (41_decoder): INIT, the three arms of a received byte, and which of them runs. -/

namespace Sys2Proof.Decoder

open Sys2Proof.Machine

/-! Each step of a live instance. -/

/-- A live instance takes a received END as END_STEP (41_decoder R85). -/
theorem exec_rxEnd {s : State} (hlive : s.faulted = false) : exec .rxEnd s = endStep s := ifLive_of_live hlive _

/-- A live instance outside discard mode takes a received ESC as ESC_STEP (41_decoder R90). -/
theorem exec_rxEsc {s : State} (hlive : s.faulted = false) (hd : s.discarding = false) :
    exec .rxEsc s = .next s.escStep := by
  rw [show exec .rxEsc s = ifLive s (ifNotDiscarding s s.escStep) from rfl, ifLive_of_live hlive]
  simp [ifNotDiscarding, hd]

/-- A live instance outside discard mode takes a DATA byte of any row as DATA_STEP of that byte (41_decoder R91). -/
theorem exec_data_of_live {s : State} {i : Instr} {b : Byte} (hlive : s.faulted = false)
    (hd : s.discarding = false) (hi : dataByteOf i = some b) : exec i s = .next (dataStep b s) := by
  rw [exec_data hi, ifLive_of_live hlive]
  simp [ifNotDiscarding, hd]

/-- In discard mode a byte that is no END changes nothing, whatever its step would do (41_decoder R97); in a faulted instance
no byte does. -/
theorem ifLive_ifNotDiscarding_of_discarding {s : State} (hd : s.discarding = true) (t : State) :
    ifLive s (ifNotDiscarding s t) = .next s := by
  simp [ifLive, ifNotDiscarding, hd]

/-- An END in discard mode ends the aborted frame (41_decoder R85). -/
theorem endStep_of_discarding {s : State} (hd : s.discarding = true) : endStep s = .next s.endDiscard := by
  simp [endStep, hd]

/-! INIT. -/

/-- Settles O21: a live instance is reset and given its limit, a faulted one stays. -/
theorem initResetsTheInstance : Obligations.InitResetsTheInstance := by
  intro s limit
  constructor
  · exact fun hlive => ifLive_of_live hlive _
  · exact fun hfault => ifLive_of_faulted hfault _

/-! ESC. -/

/-- Settles O27: outside discard mode ESC is ESC_STEP. -/
theorem escSetsPendingEscape : Obligations.EscSetsPendingEscape := fun _ hlive hd => exec_rxEsc hlive hd

/-! Discard mode. -/

/-- Settles O29: ESC and the DATA rows are steps that discard mode drops; END is not. -/
theorem discardModeDropsBytes : Obligations.DiscardModeDropsBytes := by
  intro s hd
  refine ⟨?esc, fun i b hi => ?data, fun hlive => ?atEnd⟩
  case esc => exact ifLive_ifNotDiscarding_of_discarding hd _
  case data => rw [exec_data hi, ifLive_ifNotDiscarding_of_discarding hd]
  case atEnd => exact ⟨s.endDiscard, by rw [exec_rxEnd hlive, endStep_of_discarding hd], s.endDiscard_discarding⟩

/-! END. -/

/-- A frame with no malformed escape and residue 0 is good (41_decoder R86). -/
theorem frameVerdict_good {f : CrcFunction} {bad : Bool} {frame : List Byte} (h : bad = false ∧ crc16 f frame = 0#16) :
    frameVerdict f bad frame = .success := if_pos h

/-- Every other frame is bad (41_decoder R86). -/
theorem frameVerdict_bad {f : CrcFunction} {bad : Bool} {frame : List Byte} (h : ¬(bad = false ∧ crc16 f frame = 0#16)) :
    frameVerdict f bad frame = .frameError := if_neg h

/-- Settles O26: outside discard mode `endStep_of_le` records the verdict of FRAME_CHECK, and only a good frame's emits an
event. -/
theorem endClosesAndChecksTheFrame : Obligations.EndClosesAndChecksTheFrame := by
  intro s hlive
  rw [exec_rxEnd hlive]
  refine ⟨fun hd hcap => ⟨fun hgood => ?good, fun hbad => ?bad⟩, fun hd => ?discarding⟩
  case good => rw [endStep_of_le hd hcap, frameVerdict_good hgood]; rfl
  case bad => rw [endStep_of_le hd hcap, frameVerdict_bad hbad]; rfl
  case discarding => exact endStep_of_discarding hd

/-! DATA. -/

/-- With no escape pending a byte stands for itself (41_decoder R93). -/
@[simp] theorem resolvedByte_verbatim (b : Byte) : resolvedByte false b = b := rfl

/-- With no escape pending no byte is a malformed escape (41_decoder R93). -/
theorem malformedEscape_of_verbatim {s : State} (hp : s.pendingEscape = false) (b : Byte) :
    malformedEscape s b = false := by simp [malformedEscape, hp]

/-- After an ESC, ESC_END stands for END (41_decoder R93). -/
@[simp] theorem resolvedByte_escEnd : resolvedByte true 0xDC#8 = 0xC0#8 := rfl

/-- After an ESC, any byte but ESC_END stands for ESC, a malformed escape included (41_decoder R93; decision D8). -/
theorem resolvedByte_escaped {b : Byte} (h : b ≠ 0xDC#8) : resolvedByte true b = 0xDB#8 := by
  simp [resolvedByte, h]

/-- ESC_END is never malformed (30_encoding R65). -/
@[simp] theorem malformedEscape_escEnd (s : State) : malformedEscape s 0xDC#8 = false := by simp [malformedEscape]

/-- ESC_ESC is never malformed (30_encoding R65). -/
@[simp] theorem malformedEscape_escEsc (s : State) : malformedEscape s 0xDD#8 = false := by simp [malformedEscape]

/-- Any other byte after an ESC is malformed under `Strict` (41_decoder R93; decision D8). -/
theorem malformedEscape_other {s : State} {b : Byte} (hp : s.pendingEscape = true) (hEscEnd : b ≠ 0xDC#8)
    (hEscEsc : b ≠ 0xDD#8) : malformedEscape s b = decide (s.params.escapePolicy = .strict) := by
  simp [malformedEscape, hp, hEscEnd, hEscEsc]

/-- DATA_STEP with room, as one record (41_decoder R92, R93, R95). -/
theorem dataStep_of_room {s : State} (hroom : s.receivedCount < s.params.cap) (b : Byte) :
    dataStep b s = { s with
      isReceiving := true
      timeoutCount := if s.isReceiving then s.timeoutCount else 0
      receivedCount := s.receivedCount + 1
      pendingEscape := false
      buf := Memory.write s.buf s.receivedCount (resolvedByte s.pendingEscape b)
      badEscape := s.badEscape || malformedEscape s b } := by
  rcases dataStep_cases b s with ⟨hfull, -⟩ | ⟨-, hstep⟩
  · omega
  · rw [hstep, State.dataFirst_eq]
    rfl

/-- DATA_STEP with no room, as one record, the same for every byte (41_decoder R92, R94). -/
theorem dataStep_of_full {s : State} (hfull : s.params.cap ≤ s.receivedCount) (b : Byte) :
    dataStep b s = { s with
      isReceiving := true
      timeoutCount := if s.isReceiving then s.timeoutCount else 0
      discarding := true
      receivedCount := 0
      pendingEscape := false
      badEscape := false
      currentStatus := .bufferOverrun
      lastStatus := .bufferOverrun } := by
  rcases dataStep_cases b s with ⟨-, hstep⟩ | ⟨hroom, -⟩
  · rw [hstep, State.dataFirst_eq]
    rfl
  · omega

/-- Settles O28: every DATA row is DATA_STEP of its byte, in the record of `dataStep_of_room` or of `dataStep_of_full`; the
rows differ in the byte they resolve to and in whether the escape is malformed. -/
theorem dataStepStoresOrOverruns : Obligations.DataStepStoresOrOverruns := by
  intro s hlive hd
  have row {i : Instr} {b : Byte} (hi : dataByteOf i = some b) : exec i s = .next (dataStep b s) :=
    exec_data_of_live hlive hd hi
  refine ⟨fun hroom => ⟨fun hp d _ _ => ?verbatim, fun hp => ⟨?escEnd, ?escEsc, fun d _ _ hEscEnd hEscEsc => ?escBad⟩⟩,
    fun hfull i b hi => ?overrun⟩
  case verbatim =>
    rw [row rfl, dataStep_of_room hroom, malformedEscape_of_verbatim hp]
    simp [hp]
  case escEnd =>
    rw [row rfl, dataStep_of_room hroom, hp]
    simp
  case escEsc =>
    rw [row rfl, dataStep_of_room hroom, hp, resolvedByte_escaped (by decide)]
    simp
  case escBad =>
    rw [row rfl, dataStep_of_room hroom, malformedEscape_other hp hEscEnd hEscEsc, hp, resolvedByte_escaped hEscEnd]
  case overrun => rw [row hi, dataStep_of_full hfull]

/-! The selection of the byte step (41_decoder R84). -/

theorem byteStep_end {s : State} (hlive : s.faulted = false) : byteStep 0xC0#8 s = endStep s := exec_rxEnd hlive

theorem byteStep_esc {s : State} (hlive : s.faulted = false) (hd : s.discarding = false) :
    byteStep 0xDB#8 s = .next s.escStep := exec_rxEsc hlive hd

/-- In discard mode every received byte but END is dropped, in a faulted instance too (41_decoder R97). -/
theorem byteStep_of_discarding {s : State} {b : Byte} (hd : s.discarding = true) (hEnd : b ≠ 0xC0#8) :
    byteStep b s = .next s := by
  unfold byteStep
  rcases decodeByte_cases s.pendingEscape b with ⟨hb, -⟩ | ⟨-, hrow⟩ | ⟨-, -, hrow⟩
  · exact absurd hb hEnd
  · rw [hrow]
    exact ifLive_ifNotDiscarding_of_discarding hd _
  · rw [exec_data hrow, ifLive_ifNotDiscarding_of_discarding hd]

theorem byteStep_data {s : State} {b : Byte} (hlive : s.faulted = false) (hd : s.discarding = false)
    (hEnd : b ≠ 0xC0#8) (hEsc : b ≠ 0xDB#8) : byteStep b s = .next (dataStep b s) := by
  rcases decodeByte_cases s.pendingEscape b with ⟨hb, -⟩ | ⟨hb, -⟩ | ⟨-, -, hrow⟩
  · exact absurd hb hEnd
  · exact absurd hb hEsc
  · exact exec_data_of_live hlive hd hrow

/-- Settles O30: the tests of R84 in their order, each with its arm. -/
theorem byteStepSelection : Obligations.ByteStepSelection := by
  intro s b hlive
  split
  case isTrue hEnd => rw [hEnd, byteStep_end hlive]
  case isFalse hEnd =>
    split
    case isTrue hd => exact byteStep_of_discarding hd hEnd
    case isFalse hd =>
      rw [Bool.not_eq_true] at hd
      split
      case isTrue hEsc => rw [hEsc, byteStep_esc hlive hd]; rfl
      case isFalse hEsc => exact byteStep_data hlive hd hEnd hEsc

end Sys2Proof.Decoder

/-! The timeout monitor (42_timeout): TICK. -/

namespace Sys2Proof.Timeout

open Sys2Proof.Machine

/-! The TICK of a live instance, before INIT and after it. -/

/-- Before INIT a TICK is the usage error (60_exceptions R124; decision D12). -/
theorem exec_tick_of_uninit {s : State} (hlive : s.faulted = false) (hinit : s.initialized = false) :
    exec .tick s = .next (s.raise .tickBeforeInit) :=
  (ifLive_of_live hlive _).trans (ifInitialized_of_uninit hinit _ _)

/-- After INIT a TICK is the step of the timeout monitor (42_timeout R103). -/
theorem exec_tick_of_init {s : State} (hlive : s.faulted = false) (hinit : s.initialized = true) :
    exec .tick s = .next (tickStep s) :=
  (ifLive_of_live hlive _).trans (ifInitialized_of_init hinit _ _)

/-! Which TICKs count. -/

/-- `Gated` ignores a TICK while no frame is in progress, and only then (42_timeout R103; decision D9). -/
theorem tickCounts_eq_false_iff (s : State) :
    tickCounts s = false ↔ s.params.tickGating = .gated ∧ s.isReceiving = false := by
  simp [tickCounts]

/-- A TICK counts under `Ungated`, and under either policy during a frame (42_timeout R103; decision D9). -/
theorem tickCounts_eq_true_iff (s : State) :
    tickCounts s = true ↔ s.params.tickGating = .ungated ∨ s.isReceiving = true := by
  cases hg : s.params.tickGating <;> simp [tickCounts, hg]

/-! What a TICK does in each case of `tickStep_cases`. -/

theorem tickStep_of_ignored {s : State} (hcounts : tickCounts s = false) :
    tickStep s = s.giveResult (.ticked false) := if_pos hcounts

theorem tickStep_of_below {s : State} (hcounts : tickCounts s = true) (hbelow : s.timeoutCount + 1 < s.timeoutLimit) :
    tickStep s = { s with timeoutCount := s.timeoutCount + 1 }.giveResult (.ticked false) := by
  rw [tickStep, if_neg (by simp [hcounts]), if_neg (by omega)]

theorem tickStep_of_limit {s : State} (hcounts : tickCounts s = true) (hlimit : s.timeoutLimit ≤ s.timeoutCount + 1) :
    tickStep s = { s with timeoutCount := s.timeoutCount + 1 }.timeOut := by
  rw [tickStep, if_neg (by simp [hcounts]), if_pos hlimit]

/-- Settles O37: before INIT the usage error; after it, whether the TICK counts and whether the count reaches the limit
select the arm. -/
theorem tickCountsOrTimesOut : Obligations.TickCountsOrTimesOut := by
  intro s hlive
  refine ⟨fun hinit => ?beforeInit, fun hinit hidle => ?ignored, fun hinit hcounted hbelow => ?below,
    fun hinit hcounted hlimit => ?limit⟩
  case beforeInit => exact exec_tick_of_uninit hlive hinit
  case ignored =>
    rw [exec_tick_of_init hlive hinit, tickStep_of_ignored ((tickCounts_eq_false_iff s).2 hidle)]
    rfl
  case below =>
    rw [exec_tick_of_init hlive hinit, tickStep_of_below ((tickCounts_eq_true_iff s).2 hcounted) hbelow]
    rfl
  case limit =>
    rw [exec_tick_of_init hlive hinit, tickStep_of_limit ((tickCounts_eq_true_iff s).2 hcounted) hlimit]
    rfl

end Sys2Proof.Timeout

/-! The encoder (43_encoder): which payloads ENCODE accepts, and what it sends. -/

namespace Sys2Proof.Encoder

open Sys2Proof.Machine

/-! The bound on the payload. -/

/-- A payload fits when it is no longer than `MAX_PAYLOAD`, where there is one (43_encoder R112). -/
theorem payloadFits_iff (p : Params) (payload : List Byte) :
    p.payloadFits payload = true ↔ ∀ most, p.maxPayload = some most → payload.length ≤ most := by
  cases hmax : p.maxPayload <;> simp [Params.payloadFits, hmax]

/-- A payload fails to fit only by being longer than a `MAX_PAYLOAD` (43_encoder R112). -/
theorem not_payloadFits_iff (p : Params) (payload : List Byte) :
    ¬p.payloadFits payload = true ↔ ∃ most, p.maxPayload = some most ∧ most < payload.length := by
  simp only [payloadFits_iff, not_forall, not_le, exists_prop]

/-! The two outcomes of ENCODE: no field of the instance decides between them (43_encoder R116). -/

/-- An accepted payload is sent and answered true (43_encoder R111, R113). -/
theorem exec_encode_of_fits {s : State} {payload : List Byte} (hfits : s.params.payloadFits payload = true) :
    exec (.encode payload) s =
      .next ((s.sendGroups (wireGroups s.params.crc payload)).giveResult (.encoded true)) := if_pos hfits

theorem exec_encode_of_tooLong {s : State} {payload : List Byte} (hlong : ¬s.params.payloadFits payload = true) :
    exec (.encode payload) s = .refused .payloadTooLong := if_neg hlong

/-- ENCODE is refused for the length of its payload and for nothing else (43_encoder R112). -/
theorem exec_encode_refused_iff (s : State) (payload : List Byte) :
    exec (.encode payload) s = .refused .payloadTooLong ↔ ¬s.params.payloadFits payload = true := by
  refine ⟨fun hrefused hfits => ?_, exec_encode_of_tooLong⟩
  cases (exec_encode_of_fits hfits).symm.trans hrefused

/-! The groups. -/

/-- The last three groups of a frame are the escaped high and low byte of the CRC and the raw END (43_encoder R111). -/
theorem wireGroups_eq (f : CrcFunction) (payload : List Byte) :
    wireGroups f payload = payload.map escapeByte ++
      [escapeByte (crcHigh (crc16 f payload)), escapeByte (crcLow (crc16 f payload)), [wireEnd]] := by
  simp [wireGroups, trailer]

/-- Settles O12: an accepted payload is sent as its groups, in the order of `wireGroups_eq`. -/
theorem encodeStreamsTheFrame : Obligations.EncodeStreamsTheFrame := by
  intro s payload hlength
  rw [exec_encode_of_fits ((payloadFits_iff _ _).2 hlength), wireGroups_eq, List.append_assoc]
  rfl

/-- Settles O13: ENCODE is refused exactly when the payload does not fit, so when it is longer than `MAX_PAYLOAD`. -/
theorem encodeRefusesExactlyTheTooLong : Obligations.EncodeRefusesExactlyTheTooLong := fun s payload =>
  (exec_encode_refused_iff s payload).trans (not_payloadFits_iff s.params payload)

end Sys2Proof.Encoder

/-! The register view (44_register_read): READ. -/

namespace Sys2Proof.RegisterRead

open Sys2Proof.Machine

/-! The register a number names (10_state R36). -/

/-- Above the five fixed registers a number names a byte of `Buf` or nothing (10_state R36). -/
theorem registerOf_of_five_le {n : Nat} (cap : Nat) (hn : 5 ≤ n) :
    registerOf cap n = if 0x100 ≤ n ∧ n < 0x100 + cap then some (.buf (n - 0x100)) else none := by
  obtain ⟨m, rfl⟩ := Nat.exists_eq_add_of_le' hn
  rfl

theorem registerOf_buf {cap n : Nat} (hlow : 0x100 ≤ n) (hhigh : n < 0x100 + cap) :
    registerOf cap n = some (.buf (n - 0x100)) := by
  rw [registerOf_of_five_le cap (by omega), if_pos ⟨hlow, hhigh⟩]

theorem registerOf_outside {cap n : Nat} (hn : 5 ≤ n) (hout : n < 0x100 ∨ 0x100 + cap ≤ n) :
    registerOf cap n = none := by
  rw [registerOf_of_five_le cap hn, if_neg (by omega)]

/-! What a register holds. -/

/-- The STATUS a live instance shows, its fields in the order of 10_state R36; bit 9 is its `faulted`, so 0. The two
packings differ only in leading zeros, so they are compared as numbers. -/
theorem registerValue_status {s : State} (hlive : s.faulted = false) :
    registerValue s .status =
      0#22 ++ BitVec.ofBool false ++ BitVec.ofBool s.initialized ++ BitVec.ofBool s.badEscape ++
        BitVec.ofBool s.discarding ++ BitVec.ofBool s.pendingEscape ++ BitVec.ofBool s.isReceiving ++
        s.lastStatus.code ++ s.currentStatus.code := by
  apply BitVec.eq_of_toNat_eq
  rw [registerValue, BitVec.toNat_setWidth_of_le (by decide), statusBits, hlive]
  simp only [BitVec.toNat_append, BitVec.toNat_ofNat, BitVec.ofBool_false, Nat.zero_mod, Nat.zero_shiftLeft, Nat.zero_or]

theorem registerValue_buf_of_read {s : State} {i : Nat} {v : Byte} (h : Memory.read s.buf i = some v) :
    registerValue s (.buf i) = v.setWidth 32 := congrArg (BitVec.setWidth 32) (State.bufByte_of_read h)

/-- A read of a written byte uses up no draw (20_memory R46). -/
theorem afterRegisterRead_buf_of_read {s : State} {i : Nat} {v : Byte} (h : Memory.read s.buf i = some v) :
    afterRegisterRead s (.buf i) = s := if_pos (by simp [h])

/-! READ of a live instance: the number alone decides between its two outcomes (44_register_read R119). -/

theorem exec_read_of_register {s : State} {n : BitVec 29} {r : Register} (hlive : s.faulted = false)
    (hr : registerOf s.params.cap n.toNat = some r) :
    exec (.read n) s = .next ((afterRegisterRead s r).giveResult (.value (registerValue s r))) :=
  (ifLive_of_live hlive _).trans (by rw [hr])

theorem exec_read_of_none {s : State} {n : BitVec 29} (hlive : s.faulted = false)
    (hr : registerOf s.params.cap n.toNat = none) : exec (.read n) s = .next (s.raise .badRegister) :=
  (ifLive_of_live hlive _).trans (by rw [hr])

/-- Settles O41: a fixed register is read by its number; a byte of `Buf` is given as it was written, or freely with nothing
but the count of draws changed; a number outside the map names no register. -/
theorem readReturnsTheRegister : Obligations.ReadReturnsTheRegister := by
  intro s hlive
  refine ⟨?status, exec_read_of_register (r := .rxCount) hlive rfl, exec_read_of_register (r := .lastLen) hlive rfl,
    exec_read_of_register (r := .tCount) hlive rfl, exec_read_of_register (r := .tLimit) hlive rfl,
    fun n v hlow hhigh hread => ?written, fun n hlow hhigh _ => ?unwritten, fun n hn hout => ?outside⟩
  case status =>
    rw [exec_read_of_register hlive (r := .status) rfl, registerValue_status hlive]
    rfl
  case written =>
    rw [exec_read_of_register hlive (registerOf_buf hlow hhigh), registerValue_buf_of_read hread,
      afterRegisterRead_buf_of_read hread]
    rfl
  case unwritten =>
    refine ⟨s.bufByte (n.toNat - 0x100), _, exec_read_of_register hlive (registerOf_buf hlow hhigh), ?_⟩
    rw [afterRegisterRead_eq]
    rfl
  case outside => exact exec_read_of_none hlive (registerOf_outside hn hout)

end Sys2Proof.RegisterRead

/-! Usage errors and the faulted instance (60_exceptions): how an instance faults, and what a step still does to it. -/

namespace Sys2Proof.Exceptions

open Sys2Proof.Machine

/-! The usage errors. -/

/-- Before INIT a DECODE is the usage error, whatever its chunk (60_exceptions R124; decision D4). -/
theorem exec_decode_of_uninit {s : State} (hlive : s.faulted = false) (hinit : s.initialized = false) (chunk : List Byte) :
    exec (.decode chunk) s = .next (s.raise .decodeBeforeInit) :=
  (ifLive_of_live hlive _).trans (ifInitialized_of_uninit hinit _ _)

/-- Settles O24: each of the three commands raises its own usage error, and raising sets the flag and emits the event. -/
theorem usageErrorsAreTaken : Obligations.UsageErrorsAreTaken := by
  refine ⟨fun s chunk hlive hinit => ?decode, fun s hlive hinit => ?tick, fun s n hlive hn hout => ?read, rfl, rfl, rfl⟩
  case decode => exact exec_decode_of_uninit hlive hinit chunk
  case tick => exact Timeout.exec_tick_of_uninit hlive hinit
  case read => exact RegisterRead.exec_read_of_none hlive (RegisterRead.registerOf_outside hn hout)

/-! The faulted instance: the decoder's steps stand behind `ifLive`, and the other instructions touch no field of it. -/

/-- A faulted instance takes no command and no byte step (60_exceptions R125, R130 item 1). -/
theorem exec_decoderStep_of_faulted {s : State} {i : Instr} (hfault : s.faulted = true) (hi : isDecoderStep i = true) :
    exec i s = .next s := by
  cases i with
  | init | decode | tick | read | rxEnd | rxEsc | rxData | rxDataEscEnd | rxDataEscEsc | rxDataEscBad =>
    exact ifLive_of_faulted hfault _
  | encode | escape | reserved6 | reserved7 | escInEnd | escInEsc | escInPass => cases hi

/-- An ENCODE that completes had a payload that fits, and did nothing but send and answer (43_encoder R111, R112). -/
theorem exec_encode_next {s t : State} {payload : List Byte} (h : exec (.encode payload) s = .next t) :
    s.params.payloadFits payload = true ∧
      t = (s.sendGroups (wireGroups s.params.crc payload)).giveResult (.encoded true) := by
  by_cases hfits : s.params.payloadFits payload = true
  · rw [Encoder.exec_encode_of_fits hfits] at h
    cases h
    exact ⟨hfits, rfl⟩
  · rw [Encoder.exec_encode_of_tooLong hfits] at h
    cases h

/-- An instruction that is no step of the decoder writes the encoder's output and the results alone (43_encoder R116). -/
theorem exec_frame_of_not_decoderStep {s t : State} {i : Instr} (hi : isDecoderStep i = false) (h : exec i s = .next t) :
    t = { s with sink := t.sink, results := t.results } := by
  cases i with
  | encode payload =>
    obtain ⟨_, rfl⟩ := exec_encode_next h
    rfl
  | escape | escInEnd | escInEsc | escInPass => cases h; rfl
  | reserved6 | reserved7 => cases h
  | init | decode | tick | read | rxEnd | rxEsc | rxData | rxDataEscEnd | rxDataEscEsc | rxDataEscBad => cases hi

/-- Whatever runs in a faulted instance, its fields and its events stay. -/
theorem exec_frame_of_faulted {s t : State} {i : Instr} (hfault : s.faulted = true) (h : exec i s = .next t) :
    t = { s with sink := t.sink, results := t.results } := by
  cases hi : isDecoderStep i with
  | true =>
    rw [exec_decoderStep_of_faulted hfault hi] at h
    cases h
    rfl
  | false => exact exec_frame_of_not_decoderStep hi h

/-- Of all steps of the machine only the hardware reset ends the faulted state: every other waits, or takes a byte or an input and
runs it without effect on the instance (60_exceptions R125, R127). -/
theorem step_frame_of_faulted {s t : State} (hfault : s.faulted = true) (h : step s = .next t) :
    t = { s with rx := t.rx, bytePos := t.bytePos, inbox := t.inbox, sink := t.sink, results := t.results } ∨
    ∃ more, s.rx = [] ∧ s.inbox = .hardwareReset :: more := by
  rcases step_next h with ⟨_, _, _, hexec⟩ | ⟨_, _, _, _, _, _, _, hexec⟩ | ⟨_, _, _, _, hexec⟩ |
    ⟨hrx, more, hreset, _⟩ | ⟨_, _, rfl⟩
  · exact .inl (by rw [exec_frame_of_faulted (s := s.takeByte) hfault hexec]; rfl)
  · exact .inl (by rw [exec_frame_of_faulted (s := s.takeInput) hfault hexec]; rfl)
  · exact .inl (by rw [exec_frame_of_faulted (s := s.takeInput) hfault hexec]; rfl)
  · exact .inr ⟨more, hrx, hreset⟩
  · exact .inl rfl

/-- An ENCODE carried out in a live instance is carried out in a faulted one, with the same output and result: whether the
payload fits depends on the parameters alone (43_encoder R112, R116). -/
theorem exec_encode_of_faulted {s t : State} {payload : List Byte}
    (h : exec (.encode payload) { s with faulted := false } = .next t) :
    exec (.encode payload) { s with faulted := true } = .next { t with faulted := true } := by
  obtain ⟨hfits, rfl⟩ := exec_encode_next h
  exact Encoder.exec_encode_of_fits hfits

/-- Settles O25: entry is one record update; a faulted instance takes no decoder step, the encoder reads no `faulted`, and
the frame of a step from a faulted state leaves the reset as the one way out. -/
theorem faultedInstanceTakesNoStep : Obligations.FaultedInstanceTakesNoStep := by
  refine ⟨fun _ _ => rfl, fun _ _ => exec_decoderStep_of_faulted, fun s t i hi h => ?_,
    fun _ _ => step_frame_of_faulted⟩
  rcases hi with ⟨payload, rfl⟩ | ⟨b, rfl⟩
  · exact exec_encode_of_faulted h
  · rw [EscapeCodec.exec_escape] at h ⊢
    cases h
    rfl

end Sys2Proof.Exceptions

/-! The round trips of the encoding (30_encoding R64 to R71): decode of encode, encode of decode, and the table of command words. -/

namespace Sys2Proof.Encoding

open Sys2Proof.Machine

/-! Decode of encode. -/

/-- A byte operand fits its field (30_encoding R69). -/
theorem toNat_setWidth_lt (b : Byte) : (b.setWidth 29).toNat < 2 ^ 8 := by
  rw [BitVec.toNat_setWidth_of_le (by decide)]
  exact b.isLt

/-- A byte operand comes back from its field (30_encoding R69). -/
theorem setWidth_setWidth_byte (b : Byte) : (b.setWidth 29).setWidth 8 = b := by
  rw [BitVec.setWidth_setWidth_of_le _ (by decide), BitVec.setWidth_eq]

/-- A command, whatever its row, is decoded from its word and its list (30_encoding R69, R70). -/
theorem decodeCommand_commandWord (p : Params) {i : Instr} {w : Word} {bytes : List Byte} (hi : i.wellFormed p = true)
    (henc : encode i = .command w bytes) : decodeCommand p w bytes = .ok i := by
  cases i with
  | init limit =>
    cases henc
    simpa [decodeCommand, plainCommand_ok, Instr.wellFormed] using hi
  | escape b =>
    cases henc
    simpa [decodeCommand, plainCommand_ok, setWidth_setWidth_byte] using toNat_setWidth_lt b
  | decode | tick | encode | read | reserved6 | reserved7 =>
    cases henc
    simp [decodeCommand, plainCommand_ok]
  | rxEnd | rxEsc | rxData | rxDataEscEnd | rxDataEscEsc | rxDataEscBad | escInEnd | escInEsc | escInPass => cases henc

/-- A received byte selects the row it encodes, in that row's context (30_encoding R64, R65). -/
theorem decodeByte_of_encode (p : Params) {pe : Bool} {i : Instr} {b : Byte} (hi : i.wellFormed p = true)
    (hctx : contextFits pe i = true) (henc : encode i = .rxByte b) : decodeByte pe b = i := by
  cases i with
  | rxEnd | rxEsc => cases henc; rfl
  | rxData d =>
    cases henc
    obtain rfl : pe = false := by simpa [contextFits] using hctx
    simp only [Instr.wellFormed, Bool.and_eq_true, bne_iff_ne] at hi
    exact decodeByte_data hi.1 hi.2
  | rxDataEscEnd | rxDataEscEsc =>
    cases henc
    obtain rfl : pe = true := hctx
    rfl
  | rxDataEscBad d =>
    cases henc
    obtain rfl : pe = true := hctx
    simp only [Instr.wellFormed, Bool.and_eq_true, bne_iff_ne] at hi
    obtain ⟨⟨⟨hEnd, hEsc⟩, hEscEnd⟩, hEscEsc⟩ := hi
    exact decodeByte_escBad hEnd hEsc hEscEnd hEscEsc
  | init | decode | tick | encode | escape | read | reserved6 | reserved7 | escInEnd | escInEsc | escInPass => cases henc

/-- An input of the codec has the class it encodes (40_escape_codec R74). -/
theorem decodeCodec_of_encode (p : Params) {i : Instr} {b : Byte} (hi : i.wellFormed p = true)
    (henc : encode i = .codecByte b) : decodeCodec b = i := by
  cases i with
  | escInEnd | escInEsc => cases henc; rfl
  | escInPass c =>
    cases henc
    simp only [Instr.wellFormed, Bool.and_eq_true, bne_iff_ne] at hi
    simp only [decodeCodec, hi.1, hi.2, if_false]
  | init | decode | tick | encode | escape | read | reserved6 | reserved7 | rxEnd | rxEsc | rxData | rxDataEscEnd
    | rxDataEscEsc | rxDataEscBad => cases henc

/-- Settles O6, one lemma for each of the three encoding spaces. -/
theorem decodeOfEncode : Obligations.DecodeOfEncode := by
  intro p pe i hi hctx
  cases henc : encode i with
  | command w bytes => exact decodeCommand_commandWord p hi henc
  | rxByte b => exact congrArg Except.ok (decodeByte_of_encode p hi hctx henc)
  | codecByte b => exact congrArg Except.ok (decodeCodec_of_encode p hi henc)

/-! Encode of decode. -/

/-- A word is rebuilt from its operand and its `OP`. -/
theorem commandWord_of_fields {w : Word} {operand : BitVec 29} {op : BitVec 3} (hoperand : operandField w = operand)
    (hop : opField w = op) : commandWord operand op = w := by
  rw [← hoperand, ← hop, commandWord_fields]

/-- An operand below 2^8 is the byte in its low bits (30_encoding R69). -/
theorem setWidth_setWidth_operand {x : BitVec 29} (h : x.toNat < 2 ^ 8) : (x.setWidth 8).setWidth 29 = x := by
  apply BitVec.eq_of_toNat_eq
  rw [BitVec.toNat_setWidth_of_le (by decide), BitVec.toNat_setWidth, Nat.mod_eq_of_lt h]

/-- A command with a byte list is decoded exactly when its unused bits are 0. -/
theorem listCommand_ok {w : Word} {i j : Instr} :
    (if operandField w = 0#29 then .ok i else .error DecodeError.unusedBits) = Except.ok j ↔
      operandField w = 0#29 ∧ j = i := by
  split <;> simp_all [eq_comm]

/-- The eight values of `OP`. -/
theorem op_cases (op : BitVec 3) :
    op = 0#3 ∨ op = 1#3 ∨ op = 2#3 ∨ op = 3#3 ∨ op = 4#3 ∨ op = 5#3 ∨ op = 6#3 ∨ op = 7#3 := by
  decide +revert

/-- An accepted command is encoded as the word and the list it came from, whatever is pending, and is well formed but for
the length of an ENCODE (30_encoding R68 to R71). -/
theorem encode_of_decodeCommand {p : Params} {w : Word} {bytes : List Byte} {i : Instr}
    (h : decodeCommand p w bytes = .ok i) :
    encode i = .command w bytes ∧ (∀ pe, contextFits pe i = true) ∧
      (i.wellFormed p = true ∨ ∃ payload, i = .encode payload) := by
  unfold decodeCommand at h
  rcases op_cases (opField w) with hop | hop | hop | hop | hop | hop | hop | hop <;>
    simp only [hop, BitVec.toNat_ofNat, Nat.reducePow, Nat.reduceMod, plainCommand_ok, listCommand_ok, decide_eq_true_eq,
      true_and] at h
  case inl =>
    obtain ⟨hlimit, rfl, rfl⟩ := h
    exact ⟨by rw [encode, commandWord_of_fields rfl hop], fun _ => rfl, .inl (decide_eq_true hlimit)⟩
  case inr.inl =>
    obtain ⟨hzero, rfl⟩ := h
    exact ⟨by rw [encode, commandWord_of_fields hzero hop], fun _ => rfl, .inl rfl⟩
  case inr.inr.inl =>
    obtain ⟨hzero, rfl, rfl⟩ := h
    exact ⟨by rw [encode, commandWord_of_fields hzero hop], fun _ => rfl, .inl rfl⟩
  case inr.inr.inr.inl =>
    obtain ⟨hzero, rfl⟩ := h
    exact ⟨by rw [encode, commandWord_of_fields hzero hop], fun _ => rfl, .inr ⟨_, rfl⟩⟩
  case inr.inr.inr.inr.inl =>
    obtain ⟨hbyte, rfl, rfl⟩ := h
    exact ⟨by rw [encode, setWidth_setWidth_operand hbyte, commandWord_of_fields rfl hop], fun _ => rfl, .inl rfl⟩
  all_goals -- READ and the two reserved codes: any operand, no byte list
    obtain ⟨rfl, rfl⟩ := h
    exact ⟨by rw [encode, commandWord_of_fields rfl hop], fun _ => rfl, .inl rfl⟩

/-- The row of a received byte is well formed, holds in its context and is encoded as that byte (30_encoding R64, R65). -/
theorem encode_decodeByte (p : Params) (pe : Bool) (b : Byte) :
    encode (decodeByte pe b) = .rxByte b ∧ contextFits pe (decodeByte pe b) = true ∧
      (decodeByte pe b).wellFormed p = true := by
  rcases decodeByte_rows pe b with ⟨rfl, hrow⟩ | ⟨rfl, hrow⟩ | ⟨hEnd, hEsc, rfl, hrow⟩ | ⟨rfl, rfl, hrow⟩ |
    ⟨rfl, rfl, hrow⟩ | ⟨hEnd, hEsc, hEscEnd, hEscEsc, rfl, hrow⟩
  · exact hrow ▸ ⟨rfl, rfl, rfl⟩
  · exact hrow ▸ ⟨rfl, rfl, rfl⟩
  · exact hrow ▸ ⟨rfl, rfl, by simp [Instr.wellFormed, hEnd, hEsc]⟩
  · exact hrow ▸ ⟨rfl, rfl, rfl⟩
  · exact hrow ▸ ⟨rfl, rfl, rfl⟩
  · exact hrow ▸ ⟨rfl, rfl, by simp [Instr.wellFormed, hEnd, hEsc, hEscEnd, hEscEsc]⟩

/-- The class of an input of the codec is well formed and is encoded as that byte (40_escape_codec R74). -/
theorem encode_decodeCodec (p : Params) (pe : Bool) (b : Byte) :
    encode (decodeCodec b) = .codecByte b ∧ contextFits pe (decodeCodec b) = true ∧
      (decodeCodec b).wellFormed p = true := by
  unfold decodeCodec
  split
  · next hEnd => exact ⟨congrArg _ hEnd.symm, rfl, rfl⟩
  · next hEnd =>
    split
    · next hEsc => exact ⟨congrArg _ hEsc.symm, rfl, rfl⟩
    · next hEsc => exact ⟨rfl, rfl, by simpa [Instr.wellFormed] using ⟨hEnd, hEsc⟩⟩

/-- Settles O7, one lemma for each of the three encoding spaces. -/
theorem encodeOfDecode : Obligations.EncodeOfDecode := by
  intro p pe e i h
  cases e with
  | command w bytes =>
    obtain ⟨henc, hctx, hwf⟩ := encode_of_decodeCommand h
    exact ⟨henc, hctx pe, hwf⟩
  | rxByte b =>
    cases h
    obtain ⟨henc, hctx, hwf⟩ := encode_decodeByte p pe b
    exact ⟨henc, hctx, .inl hwf⟩
  | codecByte b =>
    cases h
    obtain ⟨henc, hctx, hwf⟩ := encode_decodeCodec p pe b
    exact ⟨henc, hctx, .inl hwf⟩

/-- Settles O8: each word of the table is a closed instance of the decoder, and each reserved one of a step. -/
theorem commandWordVectors : Obligations.CommandWordVectors := by
  refine ⟨?_, fun _ => rfl, rfl, fun _ => rfl, ?_, ?_, ?_, rfl, rfl, rfl, rfl, rfl⟩ <;> decide

end Sys2Proof.Encoding

/-! What an instruction that completed has done: one lemma for each command and byte step of the decoder, so that no later proof
unfolds `exec`. `Exceptions.exec_encode_next` and `Exceptions.exec_frame_of_not_decoderStep` say it of the rest. -/

namespace Sys2Proof.Outcomes

open Sys2Proof.Machine

/-! Outcomes one after another. -/

theorem andThen_eq_next {o : Host.Outcome State Fault Refusal} {k : State → Host.Outcome State Fault Refusal} {t : State}
    (h : andThen o k = .next t) : ∃ s, o = .next s ∧ k s = .next t := by
  cases o with
  | next s => exact ⟨s, rfl, h⟩
  | fault | refused => cases h

theorem andThen_assoc (o : Host.Outcome State Fault Refusal) (k l : State → Host.Outcome State Fault Refusal) :
    andThen (andThen o k) l = andThen o (fun s => andThen (k s) l) := by
  cases o <;> rfl

theorem andThen_next_right (o : Host.Outcome State Fault Refusal) : andThen o .next = o := by
  cases o <;> rfl

/-! The commands and the byte steps. -/

theorem exec_init_next {limit : BitVec 29} {s t : State} (h : exec (.init limit) s = .next t) :
    (s.faulted = true ∧ t = s) ∨
    (s.faulted = false ∧
      t = { s.resetFields with timeoutLimit := limit.toNat, initialized := true }.giveResult .initDone) := by
  rcases ifLive_next h with hstay | ⟨hlive, hact⟩
  · exact .inl hstay
  · cases hact
    exact .inr ⟨hlive, rfl⟩

theorem exec_decode_next {chunk : List Byte} {s t : State} (h : exec (.decode chunk) s = .next t) :
    (s.faulted = true ∧ t = s) ∨
    (s.faulted = false ∧ s.initialized = false ∧ t = s.raise .decodeBeforeInit) ∨
    (s.faulted = false ∧ s.initialized = true ∧ t = { s with currentStatus := .decoding }.openChunk chunk) := by
  rcases ifLive_next h with hstay | ⟨hlive, hact⟩
  · exact .inl hstay
  · rcases ifInitialized_next hact with hraise | ⟨hinit, hrun⟩
    · exact .inr (.inl ⟨hlive, hraise⟩)
    · cases hrun
      exact .inr (.inr ⟨hlive, hinit, rfl⟩)

theorem exec_tick_next {s t : State} (h : exec .tick s = .next t) :
    (s.faulted = true ∧ t = s) ∨
    (s.faulted = false ∧ s.initialized = false ∧ t = s.raise .tickBeforeInit) ∨
    (s.faulted = false ∧ s.initialized = true ∧ t = tickStep s) := by
  rcases ifLive_next h with hstay | ⟨hlive, hact⟩
  · exact .inl hstay
  · rcases ifInitialized_next hact with hraise | ⟨hinit, hrun⟩
    · exact .inr (.inl ⟨hlive, hraise⟩)
    · cases hrun
      exact .inr (.inr ⟨hlive, hinit, rfl⟩)

theorem exec_read_next {n : BitVec 29} {s t : State} (h : exec (.read n) s = .next t) :
    (s.faulted = true ∧ t = s) ∨
    (s.faulted = false ∧ registerOf s.params.cap n.toNat = none ∧ t = s.raise .badRegister) ∨
    (s.faulted = false ∧ ∃ r, registerOf s.params.cap n.toNat = some r ∧
      t = (afterRegisterRead s r).giveResult (.value (registerValue s r))) := by
  rcases ifLive_next h with hstay | ⟨hlive, hact⟩
  · exact .inl hstay
  · cases hr : registerOf s.params.cap n.toNat with
    | none =>
      rw [RegisterRead.exec_read_of_none hlive hr] at h
      cases h
      exact .inr (.inl ⟨hlive, rfl, rfl⟩)
    | some r =>
      rw [RegisterRead.exec_read_of_register hlive hr] at h
      cases h
      exact .inr (.inr ⟨hlive, r, rfl, rfl⟩)

/-- The bytes that END checks: `Buf[0..receivedCount)` (41_decoder R85, R86). -/
def frameInProgress (s : State) : List Byte := (List.range s.receivedCount).map s.bufByte

/-- The state after an END outside discard mode (41_decoder R85 to R87). -/
def endFrame (s : State) : State :=
  s.closeFrame.recordVerdict (frameVerdict s.params.crc s.badEscape (frameInProgress s)) (frameInProgress s)

theorem endStep_eq_endFrame {s : State} (hd : s.discarding = false) (hcap : s.receivedCount ≤ s.params.cap) :
    endStep s = .next (endFrame s) := endStep_of_le hd hcap

theorem exec_rxEnd_next {s t : State} (h : exec .rxEnd s = .next t) :
    (s.faulted = true ∧ t = s) ∨
    (s.faulted = false ∧ s.discarding = true ∧ t = s.endDiscard) ∨
    (s.faulted = false ∧ s.discarding = false ∧ s.receivedCount ≤ s.params.cap ∧ t = endFrame s) := by
  rcases ifLive_next h with hstay | ⟨hlive, hact⟩
  · exact .inl hstay
  · rcases endStep_next hact with hdiscard | hframe
    · exact .inr (.inl ⟨hlive, hdiscard⟩)
    · exact .inr (.inr ⟨hlive, hframe⟩)

/-- An ESC or DATA byte is dropped or taken (41_decoder R84, R97). -/
theorem ifLive_ifNotDiscarding_next {s t u : State} (h : ifLive s (ifNotDiscarding s u) = .next t) :
    ((s.faulted = true ∨ s.discarding = true) ∧ t = s) ∨ (s.faulted = false ∧ s.discarding = false ∧ t = u) := by
  rcases ifLive_next h with ⟨hfault, hstay⟩ | ⟨hlive, hact⟩
  · exact .inl ⟨.inl hfault, hstay⟩
  · cases hact
    cases hd : s.discarding
    · exact .inr ⟨hlive, rfl, rfl⟩
    · exact .inl ⟨.inr rfl, rfl⟩

theorem exec_rxEsc_next {s t : State} (h : exec .rxEsc s = .next t) :
    ((s.faulted = true ∨ s.discarding = true) ∧ t = s) ∨
    (s.faulted = false ∧ s.discarding = false ∧ t = s.escStep) := ifLive_ifNotDiscarding_next h

theorem exec_data_next {i : Instr} {b : Byte} {s t : State} (hi : dataByteOf i = some b) (h : exec i s = .next t) :
    ((s.faulted = true ∨ s.discarding = true) ∧ t = s) ∨
    (s.faulted = false ∧ s.discarding = false ∧ t = dataStep b s) :=
  ifLive_ifNotDiscarding_next ((exec_data hi s).symm.trans h)

/-- Every instruction is a command of the decoder, a byte step or no step of the decoder. -/
theorem instr_kinds (i : Instr) :
    (∃ limit, i = .init limit) ∨ (∃ chunk, i = .decode chunk) ∨ i = .tick ∨ (∃ n, i = .read n) ∨
    i = .rxEnd ∨ i = .rxEsc ∨ (∃ b, dataByteOf i = some b) ∨ isDecoderStep i = false := by
  cases i <;> simp [dataByteOf, isDecoderStep]

/-- A received byte selects one of three kinds of byte step (30_encoding R64). -/
theorem decodeByte_kinds (pe : Bool) (b : Byte) :
    decodeByte pe b = .rxEnd ∨ decodeByte pe b = .rxEsc ∨ ∃ d, dataByteOf (decodeByte pe b) = some d := by
  rcases decodeByte_cases pe b with ⟨-, hrow⟩ | ⟨-, hrow⟩ | ⟨-, -, hrow⟩
  · exact .inl hrow
  · exact .inr (.inl hrow)
  · exact .inr (.inr ⟨b, hrow⟩)

end Sys2Proof.Outcomes

/-! Frames: what an instruction leaves unchanged. -/

namespace Sys2Proof.Frames

open Sys2Proof.Machine Sys2Proof.Outcomes

/-! The commands. -/

theorem exec_init_frame {limit : BitVec 29} {s t : State} (h : exec (.init limit) s = .next t) :
    t = { s with
      receivedCount := t.receivedCount
      lastFrameLength := t.lastFrameLength
      isReceiving := t.isReceiving
      pendingEscape := t.pendingEscape
      timeoutCount := t.timeoutCount
      timeoutLimit := t.timeoutLimit
      currentStatus := t.currentStatus
      lastStatus := t.lastStatus
      initialized := t.initialized
      discarding := t.discarding
      badEscape := t.badEscape
      results := t.results } := by
  rcases exec_init_next h with ⟨-, rfl⟩ | ⟨-, rfl⟩ <;> rfl

theorem exec_decode_frame {chunk : List Byte} {s t : State} (h : exec (.decode chunk) s = .next t) :
    t = { s with
      currentStatus := t.currentStatus
      rx := t.rx
      bytePos := t.bytePos
      results := t.results
      faulted := t.faulted
      events := t.events } := by
  rcases exec_decode_next h with ⟨-, rfl⟩ | ⟨-, -, rfl⟩ | ⟨-, -, rfl⟩ <;> rfl

theorem exec_tick_frame {s t : State} (h : exec .tick s = .next t) :
    t = { s with
      receivedCount := t.receivedCount
      lastFrameLength := t.lastFrameLength
      isReceiving := t.isReceiving
      pendingEscape := t.pendingEscape
      timeoutCount := t.timeoutCount
      currentStatus := t.currentStatus
      lastStatus := t.lastStatus
      discarding := t.discarding
      badEscape := t.badEscape
      faulted := t.faulted
      events := t.events
      results := t.results } := by
  rcases exec_tick_next h with ⟨-, rfl⟩ | ⟨-, -, rfl⟩ | ⟨-, -, rfl⟩
  · rfl
  · rfl
  · rcases tickStep_cases s with ⟨-, hstep⟩ | ⟨-, -, hstep⟩ | ⟨-, -, hstep⟩ <;> rw [hstep] <;> rfl

theorem exec_read_frame {n : BitVec 29} {s t : State} (h : exec (.read n) s = .next t) :
    t = { s with results := t.results, draws := t.draws, faulted := t.faulted, events := t.events } := by
  rcases exec_read_next h with ⟨-, rfl⟩ | ⟨-, -, rfl⟩ | ⟨-, r, -, rfl⟩
  · rfl
  · rfl
  · rw [afterRegisterRead_eq]
    rfl

/-- Settles O45, one frame for each command. -/
theorem commandFrames : Obligations.CommandFrames :=
  ⟨fun _ _ _ => exec_init_frame, fun _ _ _ => exec_decode_frame, fun _ _ => exec_tick_frame,
    fun _ _ _ => exec_read_frame⟩

/-! The byte steps. -/

theorem exec_rxEnd_frame {s t : State} (h : exec .rxEnd s = .next t) :
    t = { s with
      lastFrameLength := t.lastFrameLength
      receivedCount := t.receivedCount
      isReceiving := t.isReceiving
      pendingEscape := t.pendingEscape
      discarding := t.discarding
      badEscape := t.badEscape
      currentStatus := t.currentStatus
      lastStatus := t.lastStatus
      events := t.events } := by
  rcases exec_rxEnd_next h with ⟨-, rfl⟩ | ⟨-, -, rfl⟩ | ⟨-, -, -, rfl⟩ <;> rfl

theorem exec_rxEsc_frame {s t : State} (h : exec .rxEsc s = .next t) : t = { s with pendingEscape := t.pendingEscape } := by
  rcases exec_rxEsc_next h with ⟨-, rfl⟩ | ⟨-, -, rfl⟩ <;> rfl

theorem dataStep_frame (b : Byte) (s : State) :
    dataStep b s = { s with
      buf := (dataStep b s).buf
      receivedCount := (dataStep b s).receivedCount
      isReceiving := (dataStep b s).isReceiving
      pendingEscape := (dataStep b s).pendingEscape
      timeoutCount := (dataStep b s).timeoutCount
      discarding := (dataStep b s).discarding
      badEscape := (dataStep b s).badEscape
      currentStatus := (dataStep b s).currentStatus
      lastStatus := (dataStep b s).lastStatus } := by
  rcases lt_or_ge s.receivedCount s.params.cap with hroom | hfull
  · rw [Decoder.dataStep_of_room hroom]
  · rw [Decoder.dataStep_of_full hfull]

theorem exec_data_frame {i : Instr} {b : Byte} {s t : State} (hi : dataByteOf i = some b) (h : exec i s = .next t) :
    t = { s with
      buf := t.buf
      receivedCount := t.receivedCount
      isReceiving := t.isReceiving
      pendingEscape := t.pendingEscape
      timeoutCount := t.timeoutCount
      discarding := t.discarding
      badEscape := t.badEscape
      currentStatus := t.currentStatus
      lastStatus := t.lastStatus } := by
  rcases exec_data_next hi h with ⟨-, rfl⟩ | ⟨-, -, rfl⟩
  · rfl
  · exact dataStep_frame b s

/-- A DATA byte is stored at `receivedCount`, inside the buffer, or nowhere (41_decoder R94, R95; 20_memory R45). -/
theorem dataStep_read_of_ne {a : Nat} {s : State} (b : Byte) (h : a ≠ s.receivedCount ∨ s.params.cap ≤ a) :
    Memory.read (dataStep b s).buf a = Memory.read s.buf a := by
  rcases lt_or_ge s.receivedCount s.params.cap with hroom | hfull
  · rw [Decoder.dataStep_of_room hroom]
    exact Memory.read_write_ne _ _ (by omega)
  · rw [Decoder.dataStep_of_full hfull]

theorem exec_data_read_of_ne {i : Instr} {b : Byte} {a : Nat} {s t : State} (hi : dataByteOf i = some b)
    (h : exec i s = .next t) (ha : a ≠ s.receivedCount ∨ s.params.cap ≤ a) :
    Memory.read t.buf a = Memory.read s.buf a := by
  rcases exec_data_next hi h with ⟨-, rfl⟩ | ⟨-, -, rfl⟩
  · rfl
  · exact dataStep_read_of_ne b ha

/-- Settles O46, one frame for each of the three kinds of byte step. -/
theorem byteStepFrames : Obligations.ByteStepFrames :=
  ⟨fun _ _ => exec_rxEnd_frame, fun _ _ => exec_rxEsc_frame, fun _ _ _ _ hi h =>
    ⟨exec_data_frame hi h, fun _ ha => exec_data_read_of_ne hi h (.inl ha)⟩⟩

/-! The encoder and the codec. -/

/-- Settles O44: neither ENCODE nor ESCAPE nor the codec is a step of the decoder, and only ENCODE has output groups. -/
theorem encoderLeavesTheInstanceAlone : Obligations.EncoderLeavesTheInstanceAlone := by
  refine ⟨fun _ _ _ => Exceptions.exec_frame_of_not_decoderStep rfl, fun i s t hi h => ?_⟩
  rcases hi with rfl | rfl | ⟨b, rfl⟩ | ⟨b, rfl⟩ <;> cases h <;> rfl

/-! Frames over all instructions. -/

/-- Only a DATA byte step writes `Buf` (20_memory R39). -/
theorem exec_buf {i : Instr} {s t : State} (hi : dataByteOf i = none) (h : exec i s = .next t) : t.buf = s.buf := by
  rcases instr_kinds i with ⟨_, rfl⟩ | ⟨_, rfl⟩ | rfl | ⟨_, rfl⟩ | rfl | rfl | ⟨b, hdata⟩ | hother
  · rw [exec_init_frame h]
  · rw [exec_decode_frame h]
  · rw [exec_tick_frame h]
  · rw [exec_read_frame h]
  · rw [exec_rxEnd_frame h]
  · rw [exec_rxEsc_frame h]
  · cases hi.symm.trans hdata
  · rw [Exceptions.exec_frame_of_not_decoderStep hother h]

/-- Settles O47: `exec_buf` for the other instructions, and the bound of a DATA byte's store. -/
theorem onlyDataStepsWriteTheBuffer : Obligations.OnlyDataStepsWriteTheBuffer := by
  refine fun i s t h => ⟨fun hi a => by rw [exec_buf hi h], fun a ha => ?_⟩
  cases hi : dataByteOf i with
  | none => rw [exec_buf hi h]
  | some b => exact exec_data_read_of_ne hi h (.inr ha)

/-- No instruction writes the parameters, the instance's number or the inputs not yet taken (70_reset R140). -/
theorem exec_fixed {i : Instr} {s t : State} (h : exec i s = .next t) :
    t.params = s.params ∧ t.number = s.number ∧ t.inbox = s.inbox := by
  rcases instr_kinds i with ⟨_, rfl⟩ | ⟨_, rfl⟩ | rfl | ⟨_, rfl⟩ | rfl | rfl | ⟨b, hdata⟩ | hother
  · rw [exec_init_frame h]; exact ⟨rfl, rfl, rfl⟩
  · rw [exec_decode_frame h]; exact ⟨rfl, rfl, rfl⟩
  · rw [exec_tick_frame h]; exact ⟨rfl, rfl, rfl⟩
  · rw [exec_read_frame h]; exact ⟨rfl, rfl, rfl⟩
  · rw [exec_rxEnd_frame h]; exact ⟨rfl, rfl, rfl⟩
  · rw [exec_rxEsc_frame h]; exact ⟨rfl, rfl, rfl⟩
  · rw [exec_data_frame hdata h]; exact ⟨rfl, rfl, rfl⟩
  · rw [Exceptions.exec_frame_of_not_decoderStep hother h]; exact ⟨rfl, rfl, rfl⟩

/-- What no byte step writes: the parameters, the limit, `initialized`, `faulted`, the chunk, the inputs, the sink, the results,
the draws and the number. -/
theorem exec_decodeByte_frame {pe : Bool} {b : Byte} {s t : State} (h : exec (decodeByte pe b) s = .next t) :
    t = { s with
      buf := t.buf
      receivedCount := t.receivedCount
      lastFrameLength := t.lastFrameLength
      isReceiving := t.isReceiving
      pendingEscape := t.pendingEscape
      timeoutCount := t.timeoutCount
      currentStatus := t.currentStatus
      lastStatus := t.lastStatus
      discarding := t.discarding
      badEscape := t.badEscape
      events := t.events } := by
  rcases decodeByte_kinds pe b with hrow | hrow | ⟨d, hdata⟩
  · rw [hrow] at h
    rw [exec_rxEnd_frame h]
  · rw [hrow] at h
    rw [exec_rxEsc_frame h]
  · rw [exec_data_frame hdata h]

/-- Settles O48, by the frame of each instruction but INIT. -/
theorem onlyInitSetsTheLimit : Obligations.OnlyInitSetsTheLimit := by
  intro i s t hi h
  rcases instr_kinds i with ⟨limit, rfl⟩ | ⟨_, rfl⟩ | rfl | ⟨_, rfl⟩ | rfl | rfl | ⟨b, hdata⟩ | hother
  · exact absurd rfl (hi limit)
  · rw [exec_decode_frame h]; exact ⟨rfl, rfl⟩
  · rw [exec_tick_frame h]; exact ⟨rfl, rfl⟩
  · rw [exec_read_frame h]; exact ⟨rfl, rfl⟩
  · rw [exec_rxEnd_frame h]; exact ⟨rfl, rfl⟩
  · rw [exec_rxEsc_frame h]; exact ⟨rfl, rfl⟩
  · rw [exec_data_frame hdata h]; exact ⟨rfl, rfl⟩
  · rw [Exceptions.exec_frame_of_not_decoderStep hother h]; exact ⟨rfl, rfl⟩

end Sys2Proof.Frames

/-! The invariant (10_state R32): it holds at reset, and every step keeps it. -/

namespace Sys2Proof.Invariant

open Sys2Proof.Machine Sys2Proof.Outcomes

/-! What the invariant does not read. -/

/-- The invariant reads no trace, no input, no index, no draw and no number; and it asks of the chunk in progress only that
the instance that has one is live. -/
theorem inv_surroundings {s : State} (h : Inv s) {rx : List Byte}
    (hrx : rx ≠ [] → s.initialized = true ∧ s.faulted = false) (bytePos : Nat) (inbox : List Input)
    (events : List Event) (sink : List (List Byte)) (results : List Result) (draws number : Nat) :
    Inv { s with
      rx := rx, bytePos := bytePos, inbox := inbox, events := events, sink := sink, results := results,
      draws := draws, number := number } :=
  { h with
    chunkIsLive := hrx
    uninitialized := fun hinit => congrArg (fun u : State => { u with
      rx := rx, bytePos := bytePos, inbox := inbox, events := events, sink := sink, results := results,
      draws := draws, number := number }) (h.uninitialized hinit) }

theorem inv_takeInput {s : State} (h : Inv s) : Inv s.takeInput := inv_surroundings h h.chunkIsLive _ _ _ _ _ _ _

/-- A byte is taken only in a live instance, so the bytes behind it stand in one too. -/
theorem inv_takeByte {s : State} (h : Inv s) (hrx : s.rx ≠ []) : Inv s.takeByte :=
  inv_surroundings h (fun _ => h.chunkIsLive hrx) _ _ _ _ _ _ _

theorem inv_giveResult {s : State} (h : Inv s) (r : Result) : Inv (s.giveResult r) :=
  inv_surroundings h h.chunkIsLive _ _ _ _ _ _ _

/-! The empty fields. -/

/-- The largest frame fits `receivedCount` (00_scope R7). -/
theorem cap_le_of_valid {p : Params} (h : p.valid = true) : p.cap ≤ 2 ^ p.lenW - 1 := by
  simp only [Params.valid, Bool.and_eq_true, decide_eq_true_eq] at h
  omega

/-- RESET_FIELDS (41_decoder R80) with any limit that fits, and 0 before INIT: of what stood in the state only the parameters, the
buffer and the chunk are left. -/
theorem inv_emptyFields {s : State} (hparams : s.params.valid = true) (hcanonical : Memory.wf s.buf = true)
    (hwithin : ∀ c ∈ s.buf, c.1 < s.params.cap) {limit : Nat} (hlimit : limit ≤ 2 ^ s.params.timeoutW - 1)
    {initialized : Bool} (hchunk : s.rx ≠ [] → initialized = true ∧ s.faulted = false)
    (huninit : initialized = false → limit = 0) :
    Inv { s.resetFields with timeoutLimit := limit, initialized := initialized } where
  paramsValid := hparams
  countWithinCap := Nat.zero_le _
  lastLengthWithinCap := Nat.zero_le _
  idleIsEmpty _ := rfl
  discardingIsClean hd := by cases hd
  badEscapeIsStrict hb := by cases hb
  timeoutBelowLimit := .inl rfl
  widths := ⟨hlimit, Nat.zero_le _⟩
  statusAgrees := .inl rfl
  bufCanonical := hcanonical
  bufWithinCap := hwithin
  frameWritten _ hi := absurd hi (Nat.not_lt_zero _)
  chunkIsLive := hchunk
  uninitialized hinit := by
    obtain rfl := huninit hinit
    rfl

/-- The state after hardware reset, under any valid parameters (70_reset R137, R140). -/
theorem inv_hardwareReset {s : State} (h : s.params.valid = true) : Inv s.hardwareReset :=
  inv_emptyFields (s := s.hardwareReset) h rfl (fun _ hc => by cases hc) (Nat.zero_le _) (absurd rfl) (fun _ => rfl)

/-- Settles O49: the state at reset is its own hardware reset. -/
theorem invariantHoldsAtReset : Obligations.InvariantHoldsAtReset := inv_hardwareReset (s := State.reset) (by decide)

/-! The commands. -/

/-- A usage error with no chunk in progress: only `faulted` and the events are written (60_exceptions R125). -/
theorem inv_raise {s : State} (h : Inv s) (hrx : s.rx = []) (u : UsageError) : Inv (s.raise u) :=
  { h with
    chunkIsLive := absurd hrx
    uninitialized := fun hinit => congrArg (State.raise · u) (h.uninitialized hinit) }

/-- An uninitialized instance has no chunk in progress. -/
theorem rx_eq_nil_of_uninit {s : State} (h : Inv s) (hinit : s.initialized = false) : s.rx = [] := by
  by_contra hrx
  cases (h.chunkIsLive hrx).1.symm.trans hinit

/-- What an initialized state need not show: that its fields hold their reset values. -/
theorem uninit_absurd {s : State} {p : Prop} (hinit : s.initialized = true) (huninit : s.initialized = false) : p := by
  cases hinit.symm.trans huninit

theorem exec_init_keeps_inv {limit : BitVec 29} {s t : State} (h : Inv s) (hlimit : limit.toNat < 2 ^ s.params.timeoutW)
    (hexec : exec (.init limit) s = .next t) : Inv t := by
  rcases exec_init_next hexec with ⟨-, rfl⟩ | ⟨hlive, rfl⟩
  · exact h
  · refine inv_giveResult (inv_emptyFields h.paramsValid h.bufCanonical h.bufWithinCap ?_ (fun _ => ⟨rfl, hlive⟩) ?_) _
    · exact Nat.le_sub_one_of_lt hlimit
    · exact fun hi => by cases hi

theorem exec_decode_keeps_inv {chunk : List Byte} {s t : State} (h : Inv s) (hexec : exec (.decode chunk) s = .next t) :
    Inv t := by
  rcases exec_decode_next hexec with ⟨-, rfl⟩ | ⟨-, hinit, rfl⟩ | ⟨hlive, hinit, rfl⟩
  · exact h
  · exact inv_raise h (rx_eq_nil_of_uninit h hinit) _
  · exact { h with
      statusAgrees := .inl rfl
      chunkIsLive := fun _ => ⟨hinit, hlive⟩
      uninitialized := uninit_absurd hinit }

/-- A counted TICK below the limit (42_timeout R103). -/
theorem inv_timeoutCount {s : State} (h : Inv s) (hinit : s.initialized = true) {count : Nat}
    (hcount : count < s.timeoutLimit) : Inv { s with timeoutCount := count } :=
  { h with
    timeoutBelowLimit := .inr hcount
    uninitialized := uninit_absurd hinit }

/-- The timeout (42_timeout R103, R104), whatever the count had become. -/
theorem inv_timeOut {s : State} (h : Inv s) (hinit : s.initialized = true) (count : Nat) :
    Inv ({ s with timeoutCount := count } : State).timeOut :=
  have hreset : Inv { s.resetFields with timeoutLimit := s.timeoutLimit, initialized := s.initialized } :=
    inv_emptyFields h.paramsValid h.bufCanonical h.bufWithinCap h.widths.1 h.chunkIsLive (uninit_absurd hinit)
  inv_surroundings hreset h.chunkIsLive _ _ _ _ _ _ _

theorem exec_tick_keeps_inv {s t : State} (h : Inv s) (hexec : exec .tick s = .next t) : Inv t := by
  rcases exec_tick_next hexec with ⟨-, rfl⟩ | ⟨-, hinit, rfl⟩ | ⟨-, hinit, rfl⟩
  · exact h
  · exact inv_raise h (rx_eq_nil_of_uninit h hinit) _
  · rcases tickStep_cases s with ⟨-, hstep⟩ | ⟨-, -, hstep⟩ | ⟨-, hbelow, hstep⟩ <;> rw [hstep]
    · exact inv_giveResult h _
    · exact inv_timeOut h hinit _
    · exact inv_giveResult (inv_timeoutCount h hinit hbelow) _

/-- READ can fault the instance, so no chunk may be in progress: the machine takes it between chunks. -/
theorem exec_read_keeps_inv {n : BitVec 29} {s t : State} (h : Inv s) (hrx : s.rx = [])
    (hexec : exec (.read n) s = .next t) : Inv t := by
  rcases exec_read_next hexec with ⟨-, rfl⟩ | ⟨-, -, rfl⟩ | ⟨-, r, -, rfl⟩
  · exact h
  · exact inv_raise h hrx _
  · rw [afterRegisterRead_eq]
    exact inv_surroundings h h.chunkIsLive _ _ _ _ _ _ _

theorem exec_other_keeps_inv {i : Instr} {s t : State} (h : Inv s) (hi : isDecoderStep i = false)
    (hexec : exec i s = .next t) : Inv t := by
  rw [Exceptions.exec_frame_of_not_decoderStep hi hexec]
  exact inv_surroundings h h.chunkIsLive _ _ _ _ _ _ _

/-! The byte steps of an initialized instance: a chunk is in progress in no other. -/

theorem inv_endDiscard {s : State} (h : Inv s) (hinit : s.initialized = true) : Inv s.endDiscard :=
  { h with
    countWithinCap := Nat.zero_le _
    idleIsEmpty := fun _ => rfl
    discardingIsClean := fun hd => by cases hd
    badEscapeIsStrict := fun hb => by cases hb
    widths := ⟨h.widths.1, Nat.zero_le _⟩
    frameWritten := fun _ hi => absurd hi (Nat.not_lt_zero _)
    uninitialized := uninit_absurd hinit }

theorem inv_endFrame {s : State} (h : Inv s) (hinit : s.initialized = true) (hd : s.discarding = false) :
    Inv (endFrame s) :=
  { h with
    countWithinCap := Nat.zero_le _
    lastLengthWithinCap := h.countWithinCap
    idleIsEmpty := fun _ => rfl
    discardingIsClean := fun hd' => by cases hd.symm.trans hd'
    badEscapeIsStrict := fun hb => by cases hb
    widths := ⟨h.widths.1, Nat.zero_le _⟩
    statusAgrees := .inr rfl
    frameWritten := fun _ hi => absurd hi (Nat.not_lt_zero _)
    uninitialized := uninit_absurd hinit }

theorem inv_escStep {s : State} (h : Inv s) (hinit : s.initialized = true) (hd : s.discarding = false) : Inv s.escStep :=
  { h with
    discardingIsClean := fun hd' => by cases hd.symm.trans hd'
    uninitialized := uninit_absurd hinit }

/-- The first DATA byte of a frame restarts the count, and a later one leaves it (41_decoder R92). -/
theorem timeoutBelowLimit_dataFirst {s : State} (h : Inv s) :
    (if s.isReceiving then s.timeoutCount else 0) = 0 ∨ (if s.isReceiving then s.timeoutCount else 0) < s.timeoutLimit := by
  split
  · exact h.timeoutBelowLimit
  · exact .inl rfl

theorem strict_of_malformedEscape {s : State} {b : Byte} (h : malformedEscape s b = true) :
    s.params.escapePolicy = .strict := by
  simp only [malformedEscape, Bool.and_eq_true, decide_eq_true_eq] at h
  exact h.2

/-- After a DATA byte is stored the frame in progress is written up to it (41_decoder R95, 70_reset R138). -/
theorem frameWritten_write {s : State} (h : Inv s) (v : Byte) (i : Nat) (hi : i < s.receivedCount + 1) :
    (Memory.read (Memory.write s.buf s.receivedCount v) i).isSome = true := by
  rcases Nat.lt_succ_iff_lt_or_eq.1 hi with hlt | rfl
  · rw [Memory.read_write_ne _ _ (Nat.ne_of_lt hlt)]
    exact h.frameWritten i hlt
  · simp

theorem inv_dataStep {s : State} (h : Inv s) (hinit : s.initialized = true) (hd : s.discarding = false) (b : Byte) :
    Inv (dataStep b s) := by
  rcases lt_or_ge s.receivedCount s.params.cap with hroom | hfull
  · rw [Decoder.dataStep_of_room hroom]
    exact { h with
      countWithinCap := hroom
      idleIsEmpty := fun hr => by cases hr
      discardingIsClean := fun hd' => by cases hd.symm.trans hd'
      badEscapeIsStrict := fun hb => ⟨rfl, (Bool.or_eq_true_iff.1 hb).elim
        (fun hs => (h.badEscapeIsStrict hs).2) strict_of_malformedEscape⟩
      timeoutBelowLimit := timeoutBelowLimit_dataFirst h
      widths := ⟨h.widths.1, Nat.le_trans hroom (cap_le_of_valid h.paramsValid)⟩
      bufCanonical := Memory.wf_write _ _ h.bufCanonical
      bufWithinCap := fun c hc => (Memory.mem_write hc).elim (fun hw => hw ▸ hroom) (h.bufWithinCap c)
      frameWritten := frameWritten_write h _
      uninitialized := uninit_absurd hinit }
  · rw [Decoder.dataStep_of_full hfull]
    exact { h with
      countWithinCap := Nat.zero_le _
      idleIsEmpty := fun _ => rfl
      discardingIsClean := fun _ => ⟨rfl, rfl, rfl, rfl⟩
      badEscapeIsStrict := fun hb => by cases hb
      timeoutBelowLimit := timeoutBelowLimit_dataFirst h
      widths := ⟨h.widths.1, Nat.zero_le _⟩
      statusAgrees := .inr rfl
      frameWritten := fun _ hi => absurd hi (Nat.not_lt_zero _)
      uninitialized := uninit_absurd hinit }

theorem exec_decodeByte_keeps_inv {pe : Bool} {b : Byte} {s t : State} (h : Inv s) (hinit : s.initialized = true)
    (hexec : exec (decodeByte pe b) s = .next t) : Inv t := by
  rcases decodeByte_kinds pe b with hrow | hrow | ⟨d, hdata⟩
  · rw [hrow] at hexec
    rcases exec_rxEnd_next hexec with ⟨-, rfl⟩ | ⟨-, -, rfl⟩ | ⟨-, hd, -, rfl⟩
    · exact h
    · exact inv_endDiscard h hinit
    · exact inv_endFrame h hinit hd
  · rw [hrow] at hexec
    rcases exec_rxEsc_next hexec with ⟨-, rfl⟩ | ⟨-, hd, rfl⟩
    · exact h
    · exact inv_escStep h hinit hd
  · rcases exec_data_next hdata hexec with ⟨-, rfl⟩ | ⟨-, hd, rfl⟩
    · exact h
    · exact inv_dataStep h hinit hd d

/-! The step. -/

/-- A command that the decoder accepts, taken between chunks. -/
theorem exec_command_keeps_inv {w : Word} {bytes : List Byte} {i : Instr} {s t : State} (h : Inv s) (hrx : s.rx = [])
    (hi : decodeCommand s.params w bytes = .ok i) (hexec : exec i s = .next t) : Inv t := by
  obtain ⟨henc, -, hwf⟩ := Encoding.encode_of_decodeCommand hi
  cases i with
  | init limit =>
    have hlimit : limit.toNat < 2 ^ s.params.timeoutW := by simpa [Instr.wellFormed] using hwf
    exact exec_init_keeps_inv h hlimit hexec
  | decode => exact exec_decode_keeps_inv h hexec
  | tick => exact exec_tick_keeps_inv h hexec
  | read => exact exec_read_keeps_inv h hrx hexec
  | encode | escape | reserved6 | reserved7 | escInEnd | escInEsc | escInPass => exact exec_other_keeps_inv h rfl hexec
  | rxEnd | rxEsc | rxData | rxDataEscEnd | rxDataEscEsc | rxDataEscBad => cases henc

/-- An input of the codec is no step of the decoder. -/
theorem decodeCodec_not_decoderStep (b : Byte) : isDecoderStep (decodeCodec b) = false := by
  unfold decodeCodec
  split
  · rfl
  · split <;> rfl

/-- Settles O50, one lemma for each thing that a step can take. -/
theorem everyStepKeepsTheInvariant : Obligations.EveryStepKeepsTheInvariant := by
  intro s t h hstep
  rcases step_next hstep with ⟨b, rest, hrx, hexec⟩ | ⟨hrx, w, bytes, more, i, -, hi, hexec⟩ | ⟨-, b, more, -, hexec⟩ |
    ⟨-, more, -, rfl⟩ | ⟨-, -, rfl⟩
  · have hne : s.rx ≠ [] := by simp [hrx]
    exact exec_decodeByte_keeps_inv (inv_takeByte h hne) (h.chunkIsLive hne).1 hexec
  · exact exec_command_keeps_inv (s := s.takeInput) (inv_takeInput h) hrx hi hexec
  · exact exec_other_keeps_inv (inv_takeInput h) (decodeCodec_not_decoderStep b) hexec
  · exact inv_hardwareReset h.paramsValid
  · exact h

end Sys2Proof.Invariant

/-! The steps of one instance: what each runs, that none faults under the invariant, and what none writes. -/

namespace Sys2Proof.Steps

open Sys2Proof.Machine Sys2Proof.Outcomes

/-! What a step runs. -/

/-- A chunk in progress comes first: its next byte is taken and its byte step runs (20_memory R46, R49). -/
theorem step_byte {s : State} {b : Byte} {rest : List Byte} (hrx : s.rx = b :: rest) :
    step s = exec (decodeByte s.pendingEscape b) s.takeByte := by simp only [step, fetch, hrx]

theorem step_command {s : State} {w : Word} {bytes : List Byte} {more : List Input} {i : Instr} (hrx : s.rx = [])
    (hin : s.inbox = .command w bytes :: more) (hi : decodeCommand s.params w bytes = .ok i) :
    step s = exec i s.takeInput := by simp only [step, fetch, hrx, hin, fetchInput, hi]

theorem step_codecByte {s : State} {b : Byte} {more : List Input} (hrx : s.rx = [])
    (hin : s.inbox = .codecByte b :: more) : step s = exec (decodeCodec b) s.takeInput := by
  simp only [step, fetch, hrx, hin, fetchInput]

theorem step_hardwareReset {s : State} {more : List Input} (hrx : s.rx = []) (hin : s.inbox = .hardwareReset :: more) :
    step s = .next s.takeInput.hardwareReset := by simp only [step, fetch, hrx, hin, fetchInput]

theorem step_waiting {s : State} (hrx : s.rx = []) (hin : s.inbox = []) : step s = .next s := by
  simp only [step, fetch, hrx, hin]

/-- The state with its next byte taken, as one record (10_state R34). -/
theorem takeByte_of_cons {s : State} {b : Byte} {rest : List Byte} (hrx : s.rx = b :: rest) :
    s.takeByte = { s with
      rx := rest
      bytePos := s.bytePos + 1
      results := if rest = [] then s.results ++ [.decodeDone] else s.results } := by
  simp only [State.takeByte, hrx, List.tail_cons]

theorem takeInput_of_cons {s : State} {input : Input} {more : List Input} (hin : s.inbox = input :: more) :
    s.takeInput = { s with inbox := more } := by simp only [State.takeInput, hin, List.tail_cons]

/-- Settles O1, with what is taken written as one record. -/
theorem stepRunsDecodedInstruction : Obligations.StepRunsDecodedInstruction := by
  refine ⟨fun s b rest hrx => ?byte, fun s w bytes more i hrx hin hi => ?command, fun s b more hrx hin => ?codec⟩
  case byte => rw [step_byte hrx, takeByte_of_cons hrx]
  case command => rw [step_command hrx hin hi, takeInput_of_cons hin]
  case codec => rw [step_codecByte hrx hin, takeInput_of_cons hin]

/-! Reset and waiting. -/

/-- Settles O4: the state after a reset input is one record, and waiting is the state itself. -/
theorem resetBeginsANewRunAndWaitingChangesNothing : Obligations.ResetBeginsANewRunAndWaitingChangesNothing := by
  refine ⟨fun s more hrx hin => ?_, fun s => step_waiting⟩
  rw [step_hardwareReset hrx hin, takeInput_of_cons hin]
  rfl

/-- Every field of the first column of 10_state R38 is what the hardware reset writes. -/
theorem resetColumn_hardwareReset (s : State) : ResetColumn s.hardwareReset := by
  constructor <;> intros <;> rfl

theorem controlState_hardwareReset (s : State) : controlState s.hardwareReset = .uninitialized := rfl

/-- Settles O2: both states are a hardware reset, that of `State.reset` its own. -/
theorem resetStateIsTheResetColumn : Obligations.ResetStateIsTheResetColumn := by
  rintro t (rfl | ⟨s, more, hrx, hin, hstep⟩)
  · exact ⟨resetColumn_hardwareReset State.reset, rfl, rfl⟩
  · cases (step_hardwareReset hrx hin).symm.trans hstep
    exact ⟨resetColumn_hardwareReset _, controlState_hardwareReset _, rfl⟩

/-! No step faults under the invariant. -/

theorem ifLive_ne_fault {s : State} {act : Host.Outcome State Fault Refusal} {r : Fault} (h : act ≠ .fault r) :
    ifLive s act ≠ .fault r := by
  unfold ifLive
  split
  · nofun
  · exact h

theorem ifInitialized_ne_fault {s : State} {u : UsageError} {act : Host.Outcome State Fault Refusal} {r : Fault}
    (h : act ≠ .fault r) : ifInitialized s u act ≠ .fault r := by
  unfold ifInitialized
  split
  · exact h
  · nofun

/-- A frame inside the buffer can be checked (41_decoder R98). -/
theorem endStep_ne_fault {s : State} (hcap : s.receivedCount ≤ s.params.cap) (r : Fault) : endStep s ≠ .fault r := by
  cases hd : s.discarding with
  | true => rw [Decoder.endStep_of_discarding hd]; nofun
  | false => rw [endStep_eq_endFrame hd hcap]; nofun

/-- END alone can stop the machine with a fault, and only past the end of the buffer (20_memory R45). -/
theorem exec_ne_fault (i : Instr) {s : State} (hcap : s.receivedCount ≤ s.params.cap) (r : Fault) :
    exec i s ≠ .fault r := by
  cases i with
  | init | rxEsc | rxData | rxDataEscEnd | rxDataEscEsc | rxDataEscBad => exact ifLive_ne_fault nofun
  | decode | tick => exact ifLive_ne_fault (ifInitialized_ne_fault nofun)
  | rxEnd => exact ifLive_ne_fault (endStep_ne_fault hcap r)
  | read n =>
    refine ifLive_ne_fault ?_
    split <;> nofun
  | encode payload =>
    rcases em (s.params.payloadFits payload = true) with hfits | hlong
    · rw [Encoder.exec_encode_of_fits hfits]; nofun
    · rw [Encoder.exec_encode_of_tooLong hlong]; nofun
  | escape | reserved6 | reserved7 | escInEnd | escInEsc | escInPass => nofun

/-- A step that faults has run an instruction that faults. -/
theorem step_fault {s : State} {r : Fault} (h : step s = .fault r) :
    ∃ i, exec i s.takeByte = .fault r ∨ exec i s.takeInput = .fault r := by
  cases hrx : s.rx with
  | cons b rest => exact ⟨_, .inl ((step_byte hrx).symm.trans h)⟩
  | nil =>
    cases hin : s.inbox with
    | nil => cases (step_waiting hrx hin).symm.trans h
    | cons input more =>
      cases input with
      | codecByte b => exact ⟨_, .inr ((step_codecByte hrx hin).symm.trans h)⟩
      | hardwareReset => cases (step_hardwareReset hrx hin).symm.trans h
      | command w bytes =>
        cases hi : decodeCommand s.params w bytes with
        | ok i => exact ⟨i, .inr ((step_command hrx hin hi).symm.trans h)⟩
        | error why => simp [step, fetch, hrx, hin, fetchInput, hi] at h

/-- Settles O51: the count is inside the buffer, and taking a byte or an input leaves it. -/
theorem noStepFaultsUnderTheInvariant : Obligations.NoStepFaultsUnderTheInvariant := by
  intro s r hinv h
  obtain ⟨i, hbyte | hinput⟩ := step_fault h
  · exact exec_ne_fault i (s := s.takeByte) hinv.countWithinCap r hbyte
  · exact exec_ne_fault i (s := s.takeInput) hinv.countWithinCap r hinput

/-! What no step writes. -/

/-- A step runs an instruction on the state with a byte or an input taken, or resets, or waits. -/
theorem step_next_exec {s t : State} (h : step s = .next t) :
    (∃ i, exec i s.takeByte = .next t) ∨ (∃ i, exec i s.takeInput = .next t) ∨ t = s.takeInput.hardwareReset ∨ t = s := by
  rcases step_next h with ⟨_, _, _, hexec⟩ | ⟨_, _, _, _, _, _, _, hexec⟩ | ⟨_, _, _, _, hexec⟩ | ⟨_, _, _, hreset⟩ |
    ⟨_, _, hwait⟩
  · exact .inl ⟨_, hexec⟩
  · exact .inr (.inl ⟨_, hexec⟩)
  · exact .inr (.inl ⟨_, hexec⟩)
  · exact .inr (.inr (.inl hreset))
  · exact .inr (.inr (.inr hwait))

/-- No step writes the parameters or the number, the reset input included (70_reset R140). -/
theorem step_fixed {s t : State} (h : step s = .next t) : t.params = s.params ∧ t.number = s.number := by
  rcases step_next_exec h with ⟨i, hexec⟩ | ⟨i, hexec⟩ | rfl | rfl
  · obtain ⟨hparams, hnumber, -⟩ := Frames.exec_fixed hexec
    exact ⟨hparams, hnumber⟩
  · obtain ⟨hparams, hnumber, -⟩ := Frames.exec_fixed hexec
    exact ⟨hparams, hnumber⟩
  · exact ⟨rfl, rfl⟩
  · exact ⟨rfl, rfl⟩

/-- Settles O52, the first half of `step_fixed`. -/
theorem parametersAreFixed : Obligations.ParametersAreFixed := fun _ _ h => (step_fixed h).1

/-- Settles O54: the byte step of the next byte writes none of what the frame of the byte steps leaves out, so these fields are
as they were when the byte was taken. -/
theorem nothingFallsInsideADecode : Obligations.NothingFallsInsideADecode := by
  intro s t hne h
  obtain ⟨b, rest, hrx⟩ := List.exists_cons_of_ne_nil hne
  rw [step_byte hrx] at h
  rw [Frames.exec_decodeByte_frame h]
  exact ⟨rfl, rfl, rfl, rfl, rfl, rfl, rfl, rfl⟩

/-! The count of draws (70_reset R138). -/

theorem le_draws_afterRegisterRead (s : State) (r : Register) : s.draws ≤ (afterRegisterRead s r).draws := by
  cases r with
  | buf i =>
    simp only [afterRegisterRead, State.afterBufRead]
    split
    · exact le_rfl
    · exact Nat.le_succ s.draws
  | status | rxCount | lastLen | tCount | tLimit => exact le_rfl

/-- READ alone writes the count of draws, and does not turn it back. -/
theorem exec_le_draws {i : Instr} {s t : State} (h : exec i s = .next t) : s.draws ≤ t.draws := by
  rcases instr_kinds i with ⟨_, rfl⟩ | ⟨_, rfl⟩ | rfl | ⟨n, rfl⟩ | rfl | rfl | ⟨b, hdata⟩ | hother
  · rw [Frames.exec_init_frame h]
  · rw [Frames.exec_decode_frame h]
  · rw [Frames.exec_tick_frame h]
  · rcases exec_read_next h with ⟨-, rfl⟩ | ⟨-, -, rfl⟩ | ⟨-, r, -, rfl⟩
    · exact le_rfl
    · exact le_rfl
    · exact le_draws_afterRegisterRead s r
  · rw [Frames.exec_rxEnd_frame h]
  · rw [Frames.exec_rxEsc_frame h]
  · rw [Frames.exec_data_frame hdata h]
  · rw [Exceptions.exec_frame_of_not_decoderStep hother h]

/-- The reset input keeps the count of draws, and every other step runs an instruction or waits. -/
theorem step_le_draws {s t : State} (h : step s = .next t) : s.draws ≤ t.draws := by
  rcases step_next_exec h with ⟨i, hexec⟩ | ⟨i, hexec⟩ | rfl | rfl
  · exact exec_le_draws (s := s.takeByte) hexec
  · exact exec_le_draws (s := s.takeInput) hexec
  · exact le_rfl
  · exact le_rfl

/-- A READ of an unwritten byte answers with the free value of the current draw, and uses it up (70_reset R138). -/
theorem exec_read_of_unwritten {s : State} {n : BitVec 29} (hlive : s.faulted = false) (hlow : 0x100 ≤ n.toNat)
    (hhigh : n.toNat < 0x100 + s.params.cap) (hread : Memory.read s.buf (n.toNat - 0x100) = none) :
    exec (.read n) s = .next { s with
      draws := s.draws + 1
      results := s.results ++ [.value ((Config.freeByte s.number s.draws (n.toNat - 0x100)).setWidth 32)] } := by
  rw [RegisterRead.exec_read_of_register hlive (RegisterRead.registerOf_buf hlow hhigh), registerValue,
    State.bufByte_of_unwritten hread, afterRegisterRead, State.afterBufRead_of_unwritten hread]
  rfl

/-- Settles O42: the byte is the free value. -/
theorem readOfAnUnwrittenByte : Obligations.ReadOfAnUnwrittenByte := fun _ _ hlive hlow hhigh hread =>
  ⟨_, exec_read_of_unwritten hlive hlow hhigh hread⟩

end Sys2Proof.Steps

/-! Several instances (60_exceptions R134): what a step of one does to the others. -/

namespace Sys2Proof.Instances

open Sys2Proof.Machine

/-- A number with no instance takes no step. -/
theorem stepUnit_of_none {k : Nat} {b : Block} (hk : b.unit k = none) : stepUnit k b = .next b := by
  simp only [stepUnit, hk]

theorem stepUnit_of_step {k : Nat} {b : Block} {s t : State} (hk : b.unit k = some s) (hstep : step s = .next t) :
    stepUnit k b = .next ((if takesReset s then b.hardwareReset else b).setUnit k t) := by
  simp only [stepUnit, hk, hstep]

/-- A step of an instance that takes no reset input sets its own state and no other (60_exceptions R134). -/
theorem stepUnit_next_of_not_reset {k : Nat} {b after : Block} {s : State} (hk : b.unit k = some s)
    (hreset : ¬(s.rx = [] ∧ ∃ more, s.inbox = .hardwareReset :: more)) (h : stepUnit k b = .next after) :
    ∃ t, step s = .next t ∧ after = b.setUnit k t := by
  obtain ⟨t, hstep, rfl⟩ := stepUnit_next hk h
  rw [← takesReset_iff] at hreset
  exact ⟨t, hstep, by rw [if_neg hreset]⟩

/-- The instance that was set, when what was set has the block's parameters and its number already. -/
theorem unit_setUnit_of_fixed {k : Nat} {b : Block} {t : State} (hlt : k < b.units.length) (hparams : t.params = b.params)
    (hnumber : t.number = k) : (b.setUnit k t).unit k = some t := by
  rw [Block.unit_setUnit_self t hlt, ← hparams]
  cases hnumber
  rfl

/-- The state after a step of instance `k` has the block's parameters and its number still. -/
theorem step_of_unit {k : Nat} {b : Block} {s t : State} (hk : b.unit k = some s) (hstep : step s = .next t) :
    t.params = b.params ∧ t.number = k ∧ k < b.units.length := by
  obtain ⟨hparams, hnumber, hlt⟩ := Block.unit_some hk
  obtain ⟨htparams, htnumber⟩ := Steps.step_fixed hstep
  exact ⟨htparams.trans hparams, htnumber.trans hnumber, hlt⟩

/-- Settles O57: the step sets one instance, under the block's parameters. -/
theorem instancesShareNothing : Obligations.InstancesShareNothing := by
  intro k b s hk
  obtain ⟨hparams, -, -⟩ := Block.unit_some hk
  refine ⟨hparams, fun hreset after h => ?_⟩
  obtain ⟨t, hstep, rfl⟩ := stepUnit_next_of_not_reset hk hreset h
  obtain ⟨htparams, htnumber, hlt⟩ := step_of_unit hk hstep
  exact ⟨⟨t, hstep, unit_setUnit_of_fixed hlt htparams htnumber⟩, rfl, fun j hj => Block.unit_setUnit_ne b t hj⟩

/-- After a step of a block an instance is the one that stepped, or as it was, or at its hardware reset. -/
theorem unit_stepUnit {k j : Nat} {b after : Block} {s t : State} (h : stepUnit k b = .next after) (hs : b.unit j = some s)
    (ht : after.unit j = some t) : step s = .next t ∨ t = s ∨ t = s.hardwareReset := by
  cases hk : b.unit k with
  | none =>
    cases (stepUnit_of_none hk).symm.trans h
    exact .inr (.inl (Option.some.inj (ht.symm.trans hs)))
  | some u =>
    obtain ⟨v, hstep, rfl⟩ := stepUnit_next hk h
    obtain ⟨hvparams, hvnumber, hlt⟩ := step_of_unit hk hstep
    rcases eq_or_ne j k with rfl | hj
    · obtain rfl : u = s := Option.some.inj (hk.symm.trans hs)
      rw [unit_setUnit_of_fixed (by split <;> simp [hlt]) (by split <;> simp [hvparams]) hvnumber] at ht
      exact .inl (hstep.trans (congrArg _ (Option.some.inj ht)))
    · rw [Block.unit_setUnit_ne _ v hj] at ht
      split at ht
      · rw [Block.unit_hardwareReset, hs] at ht
        exact .inr (.inr (Option.some.inj ht).symm)
      · exact .inr (.inl (Option.some.inj (ht.symm.trans hs)))

/-- Settles O53: the free value of a READ, the draws over the steps of an instance and of a block, and the numbers by place. -/
theorem noDrawIsUsedTwice : Obligations.NoDrawIsUsedTwice := by
  refine ⟨fun s n hlive hlow hhigh hread => Steps.exec_read_of_unwritten hlive hlow hhigh hread,
    fun s t h => ⟨Steps.step_le_draws h, (Steps.step_fixed h).2⟩, fun k j b after s t h hs ht => ?block,
    fun b j k s t hs ht hnumber => ?numbers⟩
  case block =>
    rcases unit_stepUnit h hs ht with hstep | rfl | rfl
    · exact ⟨Steps.step_le_draws hstep, (Steps.step_fixed hstep).2⟩
    · exact ⟨le_rfl, rfl⟩
    · exact ⟨le_rfl, rfl⟩
  case numbers =>
    obtain ⟨-, hj, -⟩ := Block.unit_some hs
    obtain ⟨-, hk, -⟩ := Block.unit_some ht
    exact hj.symm.trans (hnumber.trans hk)

/-- The step that takes the reset input puts every instance at its hardware reset; the one that took the input has it no more. -/
theorem stepUnit_hardwareReset {k : Nat} {b : Block} {s : State} {more : List Input} (hk : b.unit k = some s)
    (hrx : s.rx = []) (hin : s.inbox = .hardwareReset :: more) :
    stepUnit k b = .next (b.hardwareReset.setUnit k s.takeInput.hardwareReset) := by
  rw [stepUnit_of_step hk (Steps.step_hardwareReset hrx hin), if_pos ((takesReset_iff s).2 ⟨hrx, more, hin⟩)]

/-- Settles O3: every instance is the hardware reset of a state that has its parameters and its inputs. -/
theorem resetReachesEveryInstance : Obligations.ResetReachesEveryInstance := by
  intro k b s more hk hrx hin
  refine ⟨_, stepUnit_hardwareReset hk hrx hin, rfl, by simp, fun j u t hu ht => ?_⟩
  rcases eq_or_ne j k with rfl | hj
  · obtain ⟨hparams, hnumber, hlt⟩ := Block.unit_some hk
    rw [unit_setUnit_of_fixed (b := b.hardwareReset) (t := s.takeInput.hardwareReset) (by simpa using hlt) hparams hnumber] at ht
    cases ht
    exact ⟨Steps.resetColumn_hardwareReset _, rfl, rfl, rfl, hparams, by simp [hin]⟩
  · rw [Block.unit_setUnit_ne _ _ hj, Block.unit_hardwareReset, hu] at ht
    cases ht
    exact ⟨Steps.resetColumn_hardwareReset _, rfl, rfl, rfl, (Block.unit_some hu).1, by simp [hj]⟩

end Sys2Proof.Instances

/-! An escaped list (40_escape_codec R77), what the codec answers, and ENCODE's output (43_encoder R114, R115). -/

namespace Sys2Proof.EscapeCodec

open Sys2Proof.Machine

/-- Settles O11: each class of R74 answers with its sequence and that sequence's length. -/
theorem codecClassesReturnTheirSequence : Obligations.CodecClassesReturnTheirSequence :=
  fun _ => ⟨rfl, rfl, fun _ _ _ => rfl⟩

/-! One byte. -/

/-- The bytes that the codec escapes (40_escape_codec R74). -/
def isEscaped (b : Byte) : Bool := decide (b = 0xC0#8 ∨ b = 0xDB#8)

theorem escapeByte_length (b : Byte) : (escapeByte b).length = if isEscaped b then 2 else 1 := by
  rcases escapeByte_cases b with ⟨rfl, hb⟩ | ⟨rfl, hb⟩ | ⟨hEnd, hEsc, hb⟩
  · rfl
  · rfl
  · simp [hb, isEscaped, hEnd, hEsc]

theorem end_notMem_escapeByte (b : Byte) : 0xC0#8 ∉ escapeByte b := by
  rcases escapeByte_cases b with ⟨-, hb⟩ | ⟨-, hb⟩ | ⟨hEnd, -, hb⟩
  · simp [hb]
  · simp [hb]
  · simpa [hb] using hEnd.symm

/-- An ESC in an escape sequence is its first byte, and its code is the second and last (40_escape_codec R77 item 2). -/
theorem escapeByte_eq_append_esc {b : Byte} {before after : List Byte} (h : escapeByte b = before ++ 0xDB#8 :: after) :
    after = [0xDC#8] ∨ after = [0xDD#8] := by
  rcases escapeByte_cases b with ⟨-, hb⟩ | ⟨-, hb⟩ | ⟨-, hEsc, hb⟩ <;> rw [hb] at h <;>
    rcases before with _ | ⟨c, _ | ⟨d, rest⟩⟩ <;>
    simp only [List.cons_append, List.nil_append, List.cons.injEq, BitVec.reduceEq, List.nil_eq, List.append_eq_nil_iff,
      reduceCtorEq, true_and, false_and, and_false] at h
  · exact .inl h.symm
  · exact .inr h.symm
  · exact absurd h.1 hEsc

/-- No answer of the codec begins another: the first byte of an escaped list can be told from what follows it. -/
theorem escapeByte_append_inj {x y : Byte} {xs ys : List Byte} (h : escapeByte x ++ xs = escapeByte y ++ ys) :
    x = y ∧ xs = ys := by
  rcases escapeByte_cases x with ⟨rfl, hx⟩ | ⟨rfl, hx⟩ | ⟨-, hxEsc, hx⟩ <;>
    rcases escapeByte_cases y with ⟨rfl, hy⟩ | ⟨rfl, hy⟩ | ⟨-, hyEsc, hy⟩ <;>
    simp only [hx, hy, List.cons_append, List.nil_append, List.cons.injEq, BitVec.reduceEq, true_and, false_and,
      and_false] at h
  · exact ⟨rfl, h⟩
  · exact absurd h.1.symm hyEsc
  · exact ⟨rfl, h⟩
  · exact absurd h.1.symm hyEsc
  · exact absurd h.1 hxEsc
  · exact absurd h.1 hxEsc
  · exact h

/-! A list. -/

theorem end_notMem_escapeList (xs : List Byte) : 0xC0#8 ∉ escapeList xs := by
  simp only [escapeList, List.mem_flatMap, not_exists, not_and]
  exact fun b _ => end_notMem_escapeByte b

theorem escapeList_length (xs : List Byte) : (escapeList xs).length = xs.length + xs.countP isEscaped := by
  induction xs with
  | nil => rfl
  | cons b xs ih =>
    rw [escapeList_cons, List.length_append, ih, escapeByte_length, List.countP_cons, List.length_cons]
    split <;> omega

/-- Every ESC in an escaped list is followed by its code: it stands in the sequence of one byte, or behind it. -/
theorem escapeList_eq_append_esc {xs before after : List Byte} (h : escapeList xs = before ++ 0xDB#8 :: after) :
    ∃ c rest, after = c :: rest ∧ (c = 0xDC#8 ∨ c = 0xDD#8) := by
  induction xs generalizing before with
  | nil => simp at h
  | cons b xs ih =>
    rw [escapeList_cons, List.append_eq_append_iff] at h
    rcases h with ⟨before', -, hrest⟩ | ⟨sequence, hb, hrest⟩
    · exact ih hrest
    · cases sequence with
      | nil => exact ih (before := []) hrest.symm
      | cons c sequence =>
        obtain ⟨rfl, rfl⟩ := List.cons.inj hrest
        rcases escapeByte_eq_append_esc hb with rfl | rfl
        · exact ⟨_, _, rfl, .inl rfl⟩
        · exact ⟨_, _, rfl, .inr rfl⟩

/-- Settles O16: the three items of R77 for an escaped list. -/
theorem escapedListIsMarkerSafe : Obligations.EscapedListIsMarkerSafe := fun xs =>
  ⟨end_notMem_escapeList xs, fun _ _ => escapeList_eq_append_esc, escapeList_length xs⟩

theorem escapeByte_ne_nil (b : Byte) : escapeByte b ≠ [] := by
  rcases escapeByte_cases b with ⟨-, hb⟩ | ⟨-, hb⟩ | ⟨-, -, hb⟩ <;> simp [hb]

/-- Settles O17, byte by byte, since no answer of the codec begins another. -/
theorem escapeListIsInjective : Obligations.EscapeListIsInjective := by
  intro xs
  induction xs with
  | nil =>
    rintro (_ | ⟨y, ys⟩) h
    · rfl
    · simp [escapeByte_ne_nil] at h
  | cons x xs ih =>
    rintro (_ | ⟨y, ys⟩) h
    · simp [escapeByte_ne_nil] at h
    · obtain ⟨rfl, hrest⟩ := escapeByte_append_inj h
      rw [ih ys hrest]

end Sys2Proof.EscapeCodec

namespace Sys2Proof.Encoder

open Sys2Proof.Machine

/-! The wire. -/

theorem unescapedFrame_length (f : CrcFunction) (payload : List Byte) :
    (unescapedFrame f payload).length = payload.length + 2 := by simp [unescapedFrame, trailer]

/-- The wire frame is the escaped frame and one END (30_encoding R61). -/
theorem wire_eq (f : CrcFunction) (payload : List Byte) :
    wire f payload = escapeList (unescapedFrame f payload) ++ [0xC0#8] := Encoding.wireGroups_flatten f payload

theorem length_of_mem_wireGroups {f : CrcFunction} {payload g : List Byte} (hg : g ∈ wireGroups f payload) :
    g.length = 1 ∨ g.length = 2 := by
  simp only [wireGroups, List.mem_append, List.mem_map, List.mem_singleton] at hg
  rcases hg with ⟨b, -, rfl⟩ | rfl
  · rw [EscapeCodec.escapeByte_length]
    split
    · exact .inr rfl
    · exact .inl rfl
  · exact .inl rfl

/-- Settles O15: the groups are one for each byte of the frame and the END, and an escaped list holds no END. -/
theorem wireHasOneEndLast : Obligations.WireHasOneEndLast := by
  intro f payload
  refine ⟨by simp [wireGroups, trailer], fun g => length_of_mem_wireGroups, ?one, ?last, ?length⟩
  case one =>
    rw [wire_eq, List.count_append, List.count_eq_zero_of_not_mem (EscapeCodec.end_notMem_escapeList _)]
    rfl
  case last => rw [wire_eq, List.getLast?_concat]
  case length =>
    rw [wire_eq, List.length_append, EscapeCodec.escapeList_length, unescapedFrame_length, List.length_singleton]
    exact Nat.add_right_comm _ _ _

end Sys2Proof.Encoder

/-! The CRC (43_encoder R117, R118): the residue law. -/

namespace Sys2Proof.Crc

open Sys2Proof.Machine

/-! The default CRC-16/XMODEM. -/

/-- A shift of a register whose top bit is 0 is a plain shift (43_encoder R118). -/
theorem crcShift_of_top_clear {c : BitVec 16} (h : c.getLsbD 15 = false) : crcShift c = c <<< 1 :=
  if_neg (Bool.not_eq_true _ ▸ h)

/-- A byte in the low half of the register meets no top bit in the first eight shifts. -/
theorem iterate_crcShift_low (b : Byte) {k : Nat} (hk : k ≤ 8) : crcShift^[k] (b.setWidth 16) = b.setWidth 16 <<< k := by
  induction k with
  | zero => exact (BitVec.shiftLeft_zero _).symm
  | succ k ih =>
    rw [Function.iterate_succ_apply', ih (by omega), crcShift_of_top_clear, BitVec.shiftLeft_add]
    simp [BitVec.getLsbD_of_ge b (15 - k) (by omega)]

/-- Eight shifts carry the low byte of the register to its high half (43_encoder R118). -/
theorem crcShift8_low (b : Byte) : crcShift8 (b.setWidth 16) = b.setWidth 16 <<< 8 := iterate_crcShift_low b le_rfl

/-- Folding in its own high byte leaves the low byte of the register. -/
theorem xor_crcHigh (c : BitVec 16) : c ^^^ ((crcHigh c).setWidth 16 <<< 8) = (crcLow c).setWidth 16 := by
  apply BitVec.eq_of_getLsbD_eq
  intro i hi
  by_cases h8 : i < 8
  · simp [crcHigh, crcLow, h8, hi]
  · have hlt : i - 8 < 8 := by omega
    have hback : 8 + (i - 8) = i := by omega
    simp [crcHigh, crcLow, h8, hi, hlt, hback]

/-- After its own high byte and then its own low byte the register is 0. -/
theorem crcByte_own_bytes (c : BitVec 16) : crcByte (crcByte c (crcHigh c)) (crcLow c) = 0#16 := by
  have hhigh : crcByte c (crcHigh c) = (crcLow c).setWidth 16 <<< 8 := by rw [crcByte, xor_crcHigh, crcShift8_low]
  rw [hhigh, crcByte, BitVec.xor_self]
  rfl

theorem crc16Xmodem_residue (p : List Byte) : crc16Xmodem (p ++ trailer (crc16Xmodem p)) = 0#16 := by
  simpa [crc16Xmodem, trailer] using crcByte_own_bytes (crc16Xmodem p)

/-! The parameter. -/

theorem reverse_append_trailer (p : List Byte) (c : BitVec 16) :
    (p ++ trailer c).reverse = crcLow c :: crcHigh c :: p.reverse := by simp [trailer]

/-- The construction puts a 0 exactly where the law asks for it (43_encoder R117 item 2). -/
theorem residueLawful_residue (g : List Byte → BitVec 16) (p : List Byte) :
    residueLawful g (p ++ trailer (residueLawful g p)) = 0#16 := by
  rw [residueLawful, reverse_append_trailer]
  exact if_pos ⟨rfl, rfl⟩

/-- Where `g` obeys the law its own value is that 0. -/
theorem residueLawfulRev_eq {g : List Byte → BitVec 16} (hg : ∀ p, g (p ++ trailer (g p)) = 0#16) :
    ∀ xs, residueLawfulRev g xs = g xs.reverse
  | [] => rfl
  | [_] => rfl
  | lo :: hi :: rest => by
    rw [residueLawfulRev, residueLawfulRev_eq hg rest]
    split
    · next h =>
      obtain ⟨rfl, rfl⟩ := h
      simpa [trailer] using (hg rest.reverse).symm
    · rfl

/-- Settles O19: the 0 is put in at the law's instances, which a lawful `g` has there already. -/
theorem crcParameterIsEveryLawfulFunction : Obligations.CrcParameterIsEveryLawfulFunction := by
  refine fun g => ⟨residueLawful_residue g, fun hg xs => ?_⟩
  rw [residueLawful, residueLawfulRev_eq hg, List.reverse_reverse]

/-- The residue law of every function `CRC16` (43_encoder R117 item 2). -/
theorem crc16_residue (f : CrcFunction) (p : List Byte) : crc16 f (p ++ trailer (crc16 f p)) = 0#16 := by
  cases f with
  | xmodem => exact crc16Xmodem_residue p
  | parameter => exact residueLawful_residue Config.crcParameter p

/-- Settles O18: the trailer is these two bytes. -/
theorem crcResidueIsZero : Obligations.CrcResidueIsZero := crc16_residue

/-- Settles O20 by running the bitwise definition. -/
theorem xmodemVectors : Obligations.XmodemVectors := by
  refine ⟨?_, ?_, ?_, ?_, ?_, ?_⟩ <;> decide +kernel

end Sys2Proof.Crc

namespace Sys2Proof.RegisterRead

open Sys2Proof.Machine

/-- The bits of STATUS, each found by its place among the fields (10_state R36). -/
theorem registerValue_status_getLsbD (s : State) {i : Nat} (hi : i < 32) :
    (registerValue s .status).getLsbD i =
      if i < 2 then s.currentStatus.code.getLsbD i
      else if i - 2 < 2 then s.lastStatus.code.getLsbD (i - 2)
      else (BitVec.ofBool s.faulted ++ BitVec.ofBool s.initialized ++ BitVec.ofBool s.badEscape ++
        BitVec.ofBool s.discarding ++ BitVec.ofBool s.pendingEscape ++ BitVec.ofBool s.isReceiving).getLsbD (i - 2 - 2) := by
  rw [registerValue, BitVec.getLsbD_setWidth, decide_eq_true hi, Bool.true_and, statusBits, BitVec.getLsbD_append,
    BitVec.getLsbD_append]

/-- Settles O43: the two status codes by their bits, each flag by its place, and the rest above the ten bits. -/
theorem statusPacking : Obligations.StatusPacking := by
  refine ⟨rfl, rfl, rfl, rfl, fun s => ?_⟩
  have field {k : Nat} {x : BitVec 2}
      (h : ∀ i < 2, (registerValue s .status).getLsbD (k + i) = x.getLsbD i) :
      (registerValue s .status).extractLsb' k 2 = x :=
    BitVec.eq_of_getLsbD_eq fun i hi => by rw [BitVec.getLsbD_extractLsb', h i hi, decide_eq_true hi, Bool.true_and]
  refine ⟨field fun i hi => ?current, field fun i hi => ?last, ?_, ?_, ?_, ?_, ?_, ?_, ?zero⟩
  case current =>
    rw [registerValue_status_getLsbD s (by omega), Nat.zero_add, if_pos hi]
  case last =>
    rw [registerValue_status_getLsbD s (by omega), if_neg (by omega), Nat.add_sub_cancel_left, if_pos hi]
  case zero =>
    apply BitVec.eq_of_getLsbD_eq
    intro i hi
    simp [registerValue, hi]
  all_goals
    rw [registerValue_status_getLsbD s (by decide)]
    simp only [BitVec.getLsbD_append]
    simp

end Sys2Proof.RegisterRead

/-! The control states (10_state R31) and their transitions (41_decoder R102). -/

namespace Sys2Proof.Control

open Sys2Proof.Machine Sys2Proof.Outcomes

/-! The flags of each control state. -/

theorem uninitialized_iff (s : State) :
    controlState s = .uninitialized ↔ s.faulted = false ∧ s.initialized = false := by
  unfold controlState
  split_ifs <;> simp_all

theorem idle_iff (s : State) :
    controlState s = .idle ↔ s.faulted = false ∧ s.initialized = true ∧ s.isReceiving = false := by
  unfold controlState
  split_ifs <;> simp_all

theorem receiving_iff (s : State) : controlState s = .receiving ↔
    s.faulted = false ∧ s.initialized = true ∧ s.isReceiving = true ∧ s.discarding = false := by
  unfold controlState
  split_ifs <;> simp_all

theorem discarding_iff (s : State) : controlState s = .discarding ↔
    s.faulted = false ∧ s.initialized = true ∧ s.isReceiving = true ∧ s.discarding = true := by
  unfold controlState
  split_ifs <;> simp_all

/-- Idle, Receiving and Discarding are the control states of a live initialized instance. -/
theorem live_of_controlState {s : State}
    (h : controlState s = .idle ∨ controlState s = .receiving ∨ controlState s = .discarding) :
    s.faulted = false ∧ s.initialized = true := by
  rcases h with h | h | h
  · obtain ⟨hlive, hinit, -⟩ := (idle_iff s).1 h
    exact ⟨hlive, hinit⟩
  · obtain ⟨hlive, hinit, -⟩ := (receiving_iff s).1 h
    exact ⟨hlive, hinit⟩
  · obtain ⟨hlive, hinit, -⟩ := (discarding_iff s).1 h
    exact ⟨hlive, hinit⟩

/-- In Idle nothing is discarded (10_state R32 item 3). -/
theorem not_discarding_of_idle {s : State} (hinv : Inv s) (hreceiving : s.isReceiving = false) : s.discarding = false := by
  by_contra hd
  obtain ⟨hr, -⟩ := hinv.discardingIsClean (Bool.eq_true_of_not_eq_false hd)
  cases hr.symm.trans hreceiving

/-! The transitions. -/

/-- INIT of a live instance leads to Idle (41_decoder R81). -/
theorem exec_init_idle {limit : BitVec 29} {s t : State} (hlive : s.faulted = false) (h : exec (.init limit) s = .next t) :
    controlState t = .idle := by
  rcases exec_init_next h with ⟨hfault, -⟩ | ⟨-, rfl⟩
  · cases hlive.symm.trans hfault
  · exact (idle_iff _).2 ⟨hlive, rfl, rfl⟩

/-- END of a live initialized instance leads to Idle, in discard mode too (41_decoder R85). -/
theorem exec_rxEnd_idle {s t : State} (hlive : s.faulted = false) (hinit : s.initialized = true)
    (h : exec .rxEnd s = .next t) : controlState t = .idle := by
  rcases exec_rxEnd_next h with ⟨hfault, -⟩ | ⟨-, -, rfl⟩ | ⟨-, -, -, rfl⟩
  · cases hlive.symm.trans hfault
  · exact (idle_iff _).2 ⟨hlive, hinit, rfl⟩
  · exact (idle_iff _).2 ⟨hlive, hinit, rfl⟩

/-- A TICK that emits `TimedOut` leads to Idle; no other TICK of an initialized instance emits it (42_timeout R103, R104). -/
theorem exec_tick_idle {s t : State} (hlive : s.faulted = false) (hinit : s.initialized = true) (h : exec .tick s = .next t)
    (hevents : t.events = s.events ++ [.timedOut]) : controlState t = .idle := by
  rw [Timeout.exec_tick_of_init hlive hinit] at h
  cases h
  rcases tickStep_cases s with ⟨-, hstep⟩ | ⟨-, -, hstep⟩ | ⟨-, -, hstep⟩ <;> rw [hstep] at hevents ⊢
  · simp at hevents
  · exact (idle_iff _).2 ⟨hlive, hinit, rfl⟩
  · simp at hevents

/-- A DATA byte outside discard mode leads to Receiving with room, and to Discarding without (41_decoder R94, R95). -/
theorem exec_data_control {i : Instr} {b : Byte} {s t : State} (hi : dataByteOf i = some b) (hlive : s.faulted = false)
    (hinit : s.initialized = true) (hd : s.discarding = false) (h : exec i s = .next t) :
    controlState t = if s.receivedCount < s.params.cap then .receiving else .discarding := by
  cases (Decoder.exec_data_of_live hlive hd hi).symm.trans h
  split
  · next hroom =>
    rw [Decoder.dataStep_of_room hroom]
    exact (receiving_iff _).2 ⟨hlive, hinit, rfl, hd⟩
  · next hfull =>
    rw [Decoder.dataStep_of_full (Nat.le_of_not_lt hfull)]
    exact (discarding_iff _).2 ⟨hlive, hinit, rfl, rfl⟩

/-- Settles O36, clause by clause: the flags of the control state select the outcome of the instruction. -/
theorem controlStateTransitions : Obligations.ControlStateTransitions := by
  intro s t i hinv h
  refine ⟨?uninitInit, ?uninitCommand, ?idleData, ?idleEsc, ?receivingData, ?receivingEsc, ?discarding, ?toIdle, ?tick⟩
  case uninitInit =>
    rintro hs ⟨limit, rfl⟩
    obtain ⟨hlive, -⟩ := (uninitialized_iff s).1 hs
    exact exec_init_idle hlive h
  case uninitCommand =>
    rintro hs hi
    obtain ⟨hlive, hinit⟩ := (uninitialized_iff s).1 hs
    rcases hi with rfl | ⟨chunk, rfl⟩
    · cases (Timeout.exec_tick_of_uninit hlive hinit).symm.trans h
      rfl
    · cases (Exceptions.exec_decode_of_uninit hlive hinit chunk).symm.trans h
      rfl
  case idleData =>
    rintro hs ⟨b, hi⟩
    obtain ⟨hlive, hinit, hr⟩ := (idle_iff s).1 hs
    rw [exec_data_control hi hlive hinit (not_discarding_of_idle hinv hr) h, hinv.idleIsEmpty hr]
    rcases Nat.eq_zero_or_pos s.params.cap with hcap | hcap
    · simp [hcap]
    · simp [hcap, hcap.ne']
  case idleEsc =>
    rintro hs rfl
    obtain ⟨hlive, hinit, hr⟩ := (idle_iff s).1 hs
    cases (Decoder.exec_rxEsc hlive (not_discarding_of_idle hinv hr)).symm.trans h
    exact ⟨(idle_iff _).2 ⟨hlive, hinit, hr⟩, rfl⟩
  case receivingData =>
    rintro hs ⟨b, hi⟩
    obtain ⟨hlive, hinit, -, hd⟩ := (receiving_iff s).1 hs
    exact exec_data_control hi hlive hinit hd h
  case receivingEsc =>
    rintro hs rfl
    obtain ⟨hlive, hinit, hr, hd⟩ := (receiving_iff s).1 hs
    cases (Decoder.exec_rxEsc hlive hd).symm.trans h
    exact (receiving_iff _).2 ⟨hlive, hinit, hr, hd⟩
  case discarding =>
    rintro hs hi
    obtain ⟨-, -, -, hd⟩ := (discarding_iff s).1 hs
    obtain ⟨hesc, hdata, -⟩ := Decoder.discardModeDropsBytes s hd
    rcases hi with rfl | ⟨b, hi⟩
    · cases hesc.symm.trans h
      exact hs
    · cases (hdata i b hi).symm.trans h
      exact hs
  case toIdle =>
    rintro hs hi
    obtain ⟨hlive, hinit⟩ := live_of_controlState hs
    rcases hi with rfl | ⟨limit, rfl⟩
    · exact exec_rxEnd_idle hlive hinit h
    · exact exec_init_idle hlive h
  case tick =>
    rintro hs rfl hevents
    obtain ⟨hlive, hinit⟩ := live_of_controlState hs
    exact exec_tick_idle hlive hinit h hevents

end Sys2Proof.Control

/-! The timeout monitor over several TICKs (42_timeout R106, R110). -/

namespace Sys2Proof.Timeout

open Sys2Proof.Machine Sys2Proof.Outcomes

/-- The state after `k` counted TICKs that all stay below the limit. -/
def countedTicks (k : Nat) (s : State) : State :=
  { s with
    timeoutCount := s.timeoutCount + k
    results := s.results ++ List.replicate k (.ticked false) }

/-- The last of several TICKs comes after the others. -/
theorem ticks_succ (k : Nat) (s : State) : ticks (k + 1) s = andThen (ticks k s) (exec .tick) := by
  induction k generalizing s with
  | zero => exact andThen_next_right _
  | succ k ih =>
    rw [ticks, ticks, andThen_assoc]
    exact congrArg (andThen _) (funext ih)

/-- Counted TICKs of an initialized instance count and return false as long as the count stays below the limit (42_timeout R103). -/
theorem ticks_below {s : State} (hlive : s.faulted = false) (hinit : s.initialized = true) (hcounts : tickCounts s = true)
    {k : Nat} (hk : k ≤ s.timeoutLimit - 1 - s.timeoutCount) : ticks k s = .next (countedTicks k s) := by
  induction k with
  | zero => simp [ticks, countedTicks]
  | succ k ih =>
    have hbelow : (countedTicks k s).timeoutCount + 1 < (countedTicks k s).timeoutLimit := by
      simp only [countedTicks]
      omega
    rw [ticks_succ, ih (by omega), andThen_next, exec_tick_of_init (s := countedTicks k s) hlive hinit,
      tickStep_of_below (s := countedTicks k s) hcounts hbelow]
    simp [countedTicks, State.giveResult, List.replicate_succ', Nat.add_assoc]

/-- The counted TICK at which the count reaches the limit is the timeout (42_timeout R103, R104). -/
theorem ticks_limit {s : State} (hlive : s.faulted = false) (hinit : s.initialized = true) (hcounts : tickCounts s = true) :
    ticks (s.timeoutLimit - 1 - s.timeoutCount + 1) s =
      .next ({ s with
        timeoutCount := s.timeoutCount + (s.timeoutLimit - 1 - s.timeoutCount) + 1
        results := s.results ++ List.replicate (s.timeoutLimit - 1 - s.timeoutCount) (.ticked false) } : State).timeOut := by
  have hlimit : s.timeoutLimit ≤ s.timeoutCount + (s.timeoutLimit - 1 - s.timeoutCount) + 1 := by omega
  rw [ticks_succ, ticks_below hlive hinit hcounts le_rfl, andThen_next,
    exec_tick_of_init (s := countedTicks _ s) hlive hinit, tickStep_of_limit (s := countedTicks _ s) hcounts hlimit]
  rfl

/-- Settles O38: with the count at 0 the timeout comes at TICK number `L - 1 + 1`. -/
theorem theLimitthTickTimesOut : Obligations.TheLimitthTickTimesOut := by
  intro s hlive hinit hzero hlimit hcounts
  have hticks := ticks_limit hlive hinit ((tickCounts_eq_true_iff s).2 hcounts)
  rw [hzero, Nat.sub_zero, Nat.sub_add_cancel hlimit] at hticks
  exact ⟨_, hticks, rfl, rfl⟩

/-- In Receiving and in Discarding a frame is in progress (10_state R31). -/
theorem isReceiving_of_controlState {s : State} (h : controlState s = .receiving ∨ controlState s = .discarding) :
    s.isReceiving = true := by
  rcases h with h | h
  · obtain ⟨-, -, hr, -⟩ := (Control.receiving_iff s).1 h
    exact hr
  · obtain ⟨-, -, hr, -⟩ := (Control.discarding_iff s).1 h
    exact hr

/-- Settles O39: the count is 0 or below the limit, so the timeout comes within `max L 1` TICKs, and a frame is in progress,
so every one of them counts. -/
theorem timeoutRecovers : Obligations.TimeoutRecovers := by
  intro s hinv hstate
  obtain ⟨hlive, hinit⟩ := Control.live_of_controlState (.inr hstate)
  have hreceiving := isReceiving_of_controlState hstate
  have hticks := ticks_limit hlive hinit ((tickCounts_eq_true_iff s).2 (.inr hreceiving))
  refine ⟨_, _, by omega, hticks, rfl, ?_, rfl, rfl, rfl, ?_⟩
  · exact (Control.idle_iff _).2 ⟨hlive, hinit, rfl⟩
  · exact Invariant.inv_surroundings (Invariant.inv_timeOut hinv hinit 0) hinv.chunkIsLive _ _ _ _ _ _ _

end Sys2Proof.Timeout

/-! Byte steps, one and many: what each does, the statuses they write (41_decoder R99), and chunks (R100). -/

namespace Sys2Proof.ByteSteps

open Sys2Proof.Machine Sys2Proof.Outcomes

/-! One byte step. -/

theorem byteStep_of_faulted {b : Byte} {s : State} (hfault : s.faulted = true) : byteStep b s = .next s := by
  unfold byteStep
  rcases decodeByte_kinds s.pendingEscape b with hrow | hrow | ⟨d, hdata⟩
  · rw [hrow]
    exact ifLive_of_faulted hfault _
  · rw [hrow]
    exact ifLive_of_faulted hfault _
  · rw [exec_data hdata, ifLive_of_faulted hfault]

theorem byteStep_end_of_discarding {s : State} (hlive : s.faulted = false) (hd : s.discarding = true) :
    byteStep 0xC0#8 s = .next s.endDiscard := by
  rw [Decoder.byteStep_end hlive, Decoder.endStep_of_discarding hd]

theorem byteStep_end_of_le {s : State} (hlive : s.faulted = false) (hd : s.discarding = false)
    (hcap : s.receivedCount ≤ s.params.cap) : byteStep 0xC0#8 s = .next (endFrame s) := by
  rw [Decoder.byteStep_end hlive, endStep_eq_endFrame hd hcap]

/-- What a byte step that completed has done (41_decoder R84, R85). -/
theorem byteStep_next {b : Byte} {s t : State} (h : byteStep b s = .next t) :
    ((s.faulted = true ∨ s.discarding = true ∧ b ≠ 0xC0#8) ∧ t = s) ∨
    (s.faulted = false ∧ s.discarding = true ∧ b = 0xC0#8 ∧ t = s.endDiscard) ∨
    (s.faulted = false ∧ s.discarding = false ∧ b = 0xC0#8 ∧ s.receivedCount ≤ s.params.cap ∧ t = endFrame s) ∨
    (s.faulted = false ∧ s.discarding = false ∧ b = 0xDB#8 ∧ t = s.escStep) ∨
    (s.faulted = false ∧ s.discarding = false ∧ b ≠ 0xC0#8 ∧ b ≠ 0xDB#8 ∧ t = dataStep b s) := by
  cases hfault : s.faulted with
  | true =>
    cases (byteStep_of_faulted hfault).symm.trans h
    exact .inl ⟨.inl rfl, rfl⟩
  | false =>
    rw [Decoder.byteStepSelection s b hfault] at h
    split at h
    · next hEnd =>
      rcases endStep_next h with ⟨hd, rfl⟩ | ⟨hd, hcap, rfl⟩
      · exact .inr (.inl ⟨rfl, hd, hEnd, rfl⟩)
      · exact .inr (.inr (.inl ⟨rfl, hd, hEnd, hcap, rfl⟩))
    · next hEnd =>
      split at h
      · next hd =>
        cases h
        exact .inl ⟨.inr ⟨hd, hEnd⟩, rfl⟩
      · next hd =>
        rw [Bool.not_eq_true] at hd
        split at h
        · next hEsc =>
          cases h
          exact .inr (.inr (.inr (.inl ⟨rfl, hd, hEsc, rfl⟩)))
        · next hEsc =>
          cases h
          exact .inr (.inr (.inr (.inr ⟨rfl, hd, hEnd, hEsc, rfl⟩)))

/-- The first-byte part of a DATA byte, with room or without (41_decoder R92). -/
theorem dataStep_first (b : Byte) (s : State) :
    (dataStep b s).timeoutCount = (if s.isReceiving then s.timeoutCount else 0) ∧ (dataStep b s).isReceiving = true := by
  rcases lt_or_ge s.receivedCount s.params.cap with hroom | hfull
  · rw [Decoder.dataStep_of_room hroom]
    exact ⟨rfl, rfl⟩
  · rw [Decoder.dataStep_of_full hfull]
    exact ⟨rfl, rfl⟩

/-- Settles O40: DATA_FIRST alone writes the count. -/
theorem onlyTheFirstDataByteRestartsTheCount : Obligations.OnlyTheFirstDataByteRestartsTheCount := by
  intro s t b h
  rcases byteStep_next h with ⟨-, rfl⟩ | ⟨-, -, -, rfl⟩ | ⟨-, -, -, -, rfl⟩ | ⟨-, -, -, rfl⟩ | ⟨-, hd, hEnd, hEsc, rfl⟩
  · exact .inl rfl
  · exact .inl rfl
  · exact .inl rfl
  · exact .inl rfl
  · obtain ⟨hcount, hreceiving⟩ := dataStep_first b s
    cases hr : s.isReceiving with
    | true => exact .inl (by rw [hcount, hr]; rfl)
    | false => exact .inr ⟨hEnd, hEsc, rfl, hd, by rw [hcount, hr]; rfl, hreceiving⟩

/-! The statuses that byte steps write. -/

/-- The status that a byte step wrote, by the state after it: the value of `statusWritten` for one byte. -/
def statusOf (b : Byte) (s t : State) : Option Status := if writesStatus b s then some t.currentStatus else none

theorem frameVerdict_ne_decoding (f : CrcFunction) (bad : Bool) (frame : List Byte) :
    frameVerdict f bad frame ≠ .decoding := by
  unfold frameVerdict
  split <;> nofun

/-- A byte step writes both statuses, to the same value and not to Decoding, or neither (41_decoder R86, R94). -/
theorem byteStep_status {b : Byte} {s t : State} (h : byteStep b s = .next t) :
    t.currentStatus = (statusOf b s t).getD s.currentStatus ∧ t.lastStatus = (statusOf b s t).getD s.lastStatus ∧
      statusOf b s t ≠ some .decoding := by
  have neither (hw : writesStatus b s = false) : statusOf b s t = none := by simp [statusOf, hw]
  have both (hw : writesStatus b s = true) : statusOf b s t = some t.currentStatus := by simp [statusOf, hw]
  rcases byteStep_next h with ⟨hstay, rfl⟩ | ⟨-, hd, -, rfl⟩ | ⟨hlive, hd, hEnd, -, rfl⟩ | ⟨-, -, hEsc, rfl⟩ |
    ⟨hlive, hd, hEnd, hEsc, rfl⟩
  · rw [neither (by rcases hstay with hf | ⟨hd, -⟩ <;> simp [writesStatus, *])]
    exact ⟨rfl, rfl, nofun⟩
  · rw [neither (by simp [writesStatus, hd])]
    exact ⟨rfl, rfl, nofun⟩
  · rw [both (by simp [writesStatus, hlive, hd, hEnd])]
    exact ⟨rfl, rfl, fun hv => frameVerdict_ne_decoding _ _ _ (Option.some.inj hv)⟩
  · rw [neither (by simp [writesStatus, hEsc])]
    exact ⟨rfl, rfl, nofun⟩
  · rcases lt_or_ge s.receivedCount s.params.cap with hroom | hfull
    · rw [neither (by simp [writesStatus, hEnd, hroom]), Decoder.dataStep_of_room hroom]
      exact ⟨rfl, rfl, nofun⟩
    · rw [both (by simp [writesStatus, hlive, hd, hEsc, hfull]), Decoder.dataStep_of_full hfull]
      exact ⟨rfl, rfl, nofun⟩

/-! Several byte steps. -/

theorem byteSteps_append (xs ys : List Byte) (s : State) :
    byteSteps (xs ++ ys) s = andThen (byteSteps xs s) (byteSteps ys) := by
  induction xs generalizing s with
  | nil => rfl
  | cons b xs ih =>
    rw [List.cons_append, byteSteps, byteSteps, andThen_assoc]
    exact congrArg (andThen _) (funext ih)

theorem byteSteps_singleton (b : Byte) (s : State) : byteSteps [b] s = byteStep b s := andThen_next_right _

theorem statusWritten_cons {b : Byte} {s t : State} (h : byteStep b s = .next t) (rest : List Byte) :
    statusWritten (b :: rest) s = (statusWritten rest t).or (statusOf b s t) := by
  simp only [statusWritten, h, statusOf]

/-- `byteStep_status` for a list: a later status comes before an earlier one. -/
theorem byteSteps_status {bytes : List Byte} {s t : State} (h : byteSteps bytes s = .next t) :
    t.currentStatus = (statusWritten bytes s).getD s.currentStatus ∧
      t.lastStatus = (statusWritten bytes s).getD s.lastStatus ∧ statusWritten bytes s ≠ some .decoding := by
  induction bytes generalizing s with
  | nil =>
    cases h
    exact ⟨rfl, rfl, nofun⟩
  | cons b rest ih =>
    obtain ⟨u, hb, hrest⟩ := andThen_eq_next h
    obtain ⟨hcurrent, hlast, hne⟩ := byteStep_status hb
    obtain ⟨ihcurrent, ihlast, ihne⟩ := ih hrest
    rw [statusWritten_cons hb, Option.getD_or, Option.getD_or, ← hcurrent, ← hlast]
    refine ⟨ihcurrent, ihlast, fun hsome => ?_⟩
    rcases Option.or_eq_some_iff.1 hsome with hlater | ⟨-, hfirst⟩
    · exact ihne hlater
    · exact hne hfirst

/-- Settles O35: the entry writes Decoding, and the bytes the rest. -/
theorem statusAfterDecode : Obligations.StatusAfterDecode := fun _ _ _ h => byteSteps_status h

/-! Chunks: what the byte steps do does not depend on `currentStatus`, the one field that the entry of a DECODE writes. -/

theorem dataStep_currentStatus (b : Byte) (s : State) (c : Status) :
    ∃ c', dataStep b { s with currentStatus := c } = { dataStep b s with currentStatus := c' } := by
  rcases lt_or_ge s.receivedCount s.params.cap with hroom | hfull
  · rw [Decoder.dataStep_of_room hroom, Decoder.dataStep_of_room (s := { s with currentStatus := c }) hroom]
    exact ⟨c, rfl⟩
  · rw [Decoder.dataStep_of_full hfull, Decoder.dataStep_of_full (s := { s with currentStatus := c }) hfull]
    exact ⟨.bufferOverrun, rfl⟩

theorem byteStep_currentStatus {b : Byte} {s t : State} (h : byteStep b s = .next t) (c : Status) :
    ∃ c', byteStep b { s with currentStatus := c } = .next { t with currentStatus := c' } := by
  rcases byteStep_next h with ⟨hfault | ⟨hd, hEnd⟩, rfl⟩ | ⟨hlive, hd, rfl, rfl⟩ | ⟨hlive, hd, rfl, hcap, rfl⟩ |
    ⟨hlive, hd, rfl, rfl⟩ | ⟨hlive, hd, hEnd, hEsc, rfl⟩
  · exact ⟨c, byteStep_of_faulted hfault⟩
  · exact ⟨c, Decoder.byteStep_of_discarding hd hEnd⟩
  · exact ⟨c, byteStep_end_of_discarding hlive hd⟩
  · exact ⟨(endFrame s).currentStatus, byteStep_end_of_le hlive hd hcap⟩
  · exact ⟨c, Decoder.byteStep_esc hlive hd⟩
  · obtain ⟨c', hdata⟩ := dataStep_currentStatus b s c
    exact ⟨c', by rw [Decoder.byteStep_data (s := { s with currentStatus := c }) hlive hd hEnd hEsc, hdata]⟩

theorem byteSteps_currentStatus {bytes : List Byte} {s t : State} (h : byteSteps bytes s = .next t) (c : Status) :
    ∃ c', byteSteps bytes { s with currentStatus := c } = .next { t with currentStatus := c' } := by
  induction bytes generalizing s c with
  | nil =>
    cases h
    exact ⟨c, rfl⟩
  | cons b rest ih =>
    obtain ⟨u, hb, hrest⟩ := andThen_eq_next h
    obtain ⟨c1, hb'⟩ := byteStep_currentStatus hb c
    obtain ⟨c2, hrest'⟩ := ih hrest c1
    exact ⟨c2, by rw [byteSteps, hb', andThen_next, hrest']⟩

/-- Several DECODEs are the byte steps of all their chunks, but for `currentStatus` (41_decoder R100). -/
theorem decodeChunks_of_byteSteps {chunks : List (List Byte)} {s t : State} (h : byteSteps chunks.flatten s = .next t) :
    ∃ c, decodeChunks chunks s = .next { t with currentStatus := c } := by
  induction chunks generalizing s t with
  | nil =>
    cases h
    exact ⟨s.currentStatus, rfl⟩
  | cons chunk rest ih =>
    rw [List.flatten_cons, byteSteps_append] at h
    obtain ⟨u, hchunk, hrest⟩ := andThen_eq_next h
    obtain ⟨c1, hchunk'⟩ := byteSteps_currentStatus hchunk .decoding
    obtain ⟨c2, hrest'⟩ := byteSteps_currentStatus hrest c1
    obtain ⟨c3, hchunks⟩ := ih hrest'
    exact ⟨c3, by rw [decodeChunks, decodeChunk, hchunk', andThen_next, hchunks]⟩

/-- Settles O34: both sides are the byte steps of the stream, but for `currentStatus`. -/
theorem chunkBoundariesDoNotMatter : Obligations.ChunkBoundariesDoNotMatter := by
  intro chunks s t h
  obtain ⟨c1, hbytes⟩ := byteSteps_currentStatus h s.currentStatus
  obtain ⟨c2, hchunks⟩ := decodeChunks_of_byteSteps hbytes
  exact ⟨_, hchunks, rfl⟩

end Sys2Proof.ByteSteps

/-! The decoder on what the encoder sends: the unescape law (40_escape_codec R78) and the round trip (41_decoder R101). -/

namespace Sys2Proof.RoundTrip

open Sys2Proof.Machine Sys2Proof.Outcomes Sys2Proof.ByteSteps

/-! Storing bytes. -/

/-- An instance that takes a DATA byte as it stands: live, not in discard mode, with no escape pending. -/
structure Ready (s : State) : Prop where
  live : s.faulted = false
  notDiscarding : s.discarding = false
  notPending : s.pendingEscape = false

/-- The state after a byte has been received and stored at `receivedCount` (41_decoder R92, R95). -/
def stored (v : Byte) (s : State) : State :=
  { s with
    isReceiving := true
    timeoutCount := if s.isReceiving then s.timeoutCount else 0
    receivedCount := s.receivedCount + 1
    buf := Memory.write s.buf s.receivedCount v }

/-- The state after the bytes of a list have been received and stored, in order. -/
def storedAll (xs : List Byte) (s : State) : State := xs.foldl (fun s v => stored v s) s

theorem storedAll_cons (v : Byte) (xs : List Byte) (s : State) : storedAll (v :: xs) s = storedAll xs (stored v s) := rfl

theorem storedAll_frame (xs : List Byte) (s : State) :
    storedAll xs s = { s with
      isReceiving := (storedAll xs s).isReceiving
      timeoutCount := (storedAll xs s).timeoutCount
      receivedCount := s.receivedCount + xs.length
      buf := (storedAll xs s).buf } := by
  induction xs generalizing s with
  | nil => rfl
  | cons v xs ih =>
    rw [storedAll_cons, ih (stored v s)]
    simp [stored, Nat.add_comm 1, Nat.add_assoc]

theorem storedAll_receivedCount (xs : List Byte) (s : State) :
    (storedAll xs s).receivedCount = s.receivedCount + xs.length := by rw [storedAll_frame]

theorem ready_storedAll {s : State} (h : Ready s) (xs : List Byte) : Ready (storedAll xs s) := by
  rw [storedAll_frame]
  exact ⟨h.live, h.notDiscarding, h.notPending⟩

/-- Outside the range stored the buffer is as it was. -/
theorem read_storedAll_outside {xs : List Byte} {s : State} {i : Nat}
    (hi : i < s.receivedCount ∨ s.receivedCount + xs.length ≤ i) :
    Memory.read (storedAll xs s).buf i = Memory.read s.buf i := by
  induction xs generalizing s with
  | nil => rfl
  | cons v xs ih =>
    rw [List.length_cons] at hi
    rw [storedAll_cons, ih (s := stored v s) (by simp only [stored]; omega)]
    exact Memory.read_write_ne _ _ (by omega)

/-- Inside the range stored the buffer holds the list. -/
theorem read_storedAll_inside {xs : List Byte} {i : Nat} (s : State) (hi : i < xs.length) :
    Memory.read (storedAll xs s).buf (s.receivedCount + i) = xs[i]? := by
  induction xs generalizing s i with
  | nil => cases hi
  | cons v xs ih =>
    rw [storedAll_cons]
    cases i with
    | zero =>
      rw [read_storedAll_outside (.inl (Nat.lt_succ_self _))]
      exact Memory.read_write_self _ _ _
    | succ i =>
      rw [List.getElem?_cons_succ, ← ih (stored v s) (Nat.lt_of_succ_lt_succ hi)]
      exact congrArg _ (by simp only [stored]; omega)

/-! Bytes with room. -/

/-- With room the escape sequence of a byte is received as that byte, under both policies (40_escape_codec R78). -/
theorem byteSteps_escapeByte {s : State} (h : Ready s) (hroom : s.receivedCount < s.params.cap) (v : Byte) :
    byteSteps (escapeByte v) s = .next (stored v s) := by
  obtain ⟨hlive, hd, hp⟩ := h
  have escaped (d : Byte) (hEnd : d ≠ 0xC0#8) (hEsc : d ≠ 0xDB#8) :
      byteSteps [0xDB#8, d] s = .next (dataStep d s.escStep) := by
    rw [byteSteps, Decoder.byteStep_esc hlive hd, andThen_next, byteSteps_singleton,
      Decoder.byteStep_data (s := s.escStep) hlive hd hEnd hEsc]
  rcases escapeByte_cases v with ⟨rfl, hv⟩ | ⟨rfl, hv⟩ | ⟨hEnd, hEsc, hv⟩ <;> rw [hv]
  · rw [escaped _ (by decide) (by decide), Decoder.dataStep_of_room (s := s.escStep) hroom]
    simp [stored, State.escStep, hp]
    rfl
  · rw [escaped _ (by decide) (by decide), Decoder.dataStep_of_room (s := s.escStep) hroom]
    simp [stored, State.escStep, hp, Decoder.resolvedByte_escaped]
    rfl
  · rw [byteSteps_singleton, Decoder.byteStep_data hlive hd hEnd hEsc, Decoder.dataStep_of_room hroom,
      Decoder.malformedEscape_of_verbatim hp]
    simp [stored, hp]

/-- `byteSteps_escapeByte` for a list that fits. -/
theorem byteSteps_escapeList {s : State} {xs : List Byte} (h : Ready s) (hroom : s.receivedCount + xs.length ≤ s.params.cap) :
    byteSteps (escapeList xs) s = .next (storedAll xs s) := by
  induction xs generalizing s with
  | nil => rfl
  | cons v xs ih =>
    rw [List.length_cons] at hroom
    rw [escapeList_cons, byteSteps_append, byteSteps_escapeByte h (by omega), andThen_next,
      ih (s := stored v s) ⟨h.live, h.notDiscarding, h.notPending⟩ (by simp only [stored]; omega)]
    rfl

/-- Settles O31: the list is stored from index 0. -/
theorem unescapeRecoversTheBytes : Obligations.UnescapeRecoversTheBytes := by
  intro s xs hlive hd hp hzero hroom
  have hready : Ready s := ⟨hlive, hd, hp⟩
  refine ⟨storedAll xs s, byteSteps_escapeList hready (by omega), ?count, (ready_storedAll hready xs).notPending, ?bad,
    fun i hi => ?inside, fun i hi => read_storedAll_outside (.inr (by omega))⟩
  case count => rw [storedAll_receivedCount, hzero, Nat.zero_add]
  case bad => rw [storedAll_frame]
  case inside =>
    have hread := read_storedAll_inside s hi
    rwa [hzero, Nat.zero_add] at hread

/-! The round trip. -/

/-- What END checks after a frame has been stored from index 0 is that frame. -/
theorem frameInProgress_storedAll {s : State} (hzero : s.receivedCount = 0) (xs : List Byte) :
    frameInProgress (storedAll xs s) = xs := by
  apply List.ext_getElem
  · simp [frameInProgress, storedAll_receivedCount, hzero]
  · intro i _ hi
    have hread := read_storedAll_inside s hi
    rw [hzero, Nat.zero_add, List.getElem?_eq_getElem hi] at hread
    simp only [frameInProgress, List.getElem_map, List.getElem_range]
    exact State.bufByte_of_read hread

/-- The frame of a payload passes its own check (41_decoder R86, 43_encoder R117). -/
theorem frameVerdict_unescapedFrame (f : CrcFunction) (payload : List Byte) :
    frameVerdict f false (unescapedFrame f payload) = .success :=
  Decoder.frameVerdict_good ⟨rfl, Crc.crc16_residue f payload⟩

/-- Idle with no escape pending: a state from which a frame is received from its first byte. -/
theorem ready_of_idle {s : State} (hinv : Inv s) (hidle : controlState s = .idle) (hp : s.pendingEscape = false) :
    Ready s ∧ s.receivedCount = 0 ∧ s.badEscape = false := by
  obtain ⟨hlive, -, hr⟩ := (Control.idle_iff s).1 hidle
  refine ⟨⟨hlive, Control.not_discarding_of_idle hinv hr, hp⟩, hinv.idleIsEmpty hr, ?_⟩
  by_contra hbad
  obtain ⟨hr', -⟩ := hinv.badEscapeIsStrict (Bool.eq_true_of_not_eq_false hbad)
  cases hr'.symm.trans hr

/-- The state after the frame of a payload and its END: the frame is stored, closed and delivered (41_decoder R85 to R87). -/
def delivered (payload : List Byte) (s : State) : State :=
  { storedAll (unescapedFrame s.params.crc payload) s with
    lastFrameLength := payload.length + 2
    receivedCount := 0
    isReceiving := false
    pendingEscape := false
    badEscape := false
    currentStatus := .success
    lastStatus := .success
    events := s.events ++ [.frameDelivered (payload.length + 2) (unescapedFrame s.params.crc payload)] }

/-- The END of a good frame delivers it (41_decoder R86, R87). -/
theorem endFrame_good {s : State} (h : frameVerdict s.params.crc s.badEscape (frameInProgress s) = .success) :
    endFrame s = { s with
      lastFrameLength := s.receivedCount
      receivedCount := 0
      isReceiving := false
      pendingEscape := false
      badEscape := false
      currentStatus := .success
      lastStatus := .success
      events := s.events ++ [.frameDelivered s.receivedCount (frameInProgress s)] } := by
  rw [endFrame, h]
  rfl

/-- One more DECODE after the others. -/
theorem decodeChunks_concat (chunks : List (List Byte)) (last : List Byte) (s : State) :
    decodeChunks (chunks ++ [last]) s = andThen (decodeChunks chunks s) (decodeChunk last) := by
  induction chunks generalizing s with
  | nil => exact andThen_next_right _
  | cons chunk chunks ih =>
    rw [List.cons_append, decodeChunks, decodeChunks, andThen_assoc]
    exact congrArg (andThen _) (funext ih)

/-- One more byte in the last chunk. -/
theorem decodeChunks_concat_byte (chunks : List (List Byte)) (bytes : List Byte) (b : Byte) (s : State) :
    decodeChunks (chunks ++ [bytes ++ [b]]) s = andThen (decodeChunks (chunks ++ [bytes]) s) (byteStep b) := by
  rw [decodeChunks_concat, decodeChunks_concat, andThen_assoc]
  refine congrArg (andThen _) (funext fun t => ?_)
  rw [decodeChunk, byteSteps_append]
  exact congrArg (andThen _) (funext (byteSteps_singleton b))

section
variable {s : State} {payload : List Byte}

/-- The END of a stored frame delivers it, whatever `currentStatus` has become. -/
theorem endFrame_storedAll (hzero : s.receivedCount = 0) (hbad : s.badEscape = false) (c : Status) :
    endFrame { storedAll (unescapedFrame s.params.crc payload) s with currentStatus := c } = delivered payload s := by
  have hframe : frameInProgress { storedAll (unescapedFrame s.params.crc payload) s with currentStatus := c } =
      unescapedFrame s.params.crc payload := frameInProgress_storedAll hzero _
  have hcount : (storedAll (unescapedFrame s.params.crc payload) s).receivedCount = payload.length + 2 := by
    rw [storedAll_receivedCount, hzero, Nat.zero_add, Encoder.unescapedFrame_length]
  have hkept : (storedAll (unescapedFrame s.params.crc payload) s).params = s.params ∧
      (storedAll (unescapedFrame s.params.crc payload) s).badEscape = false ∧
      (storedAll (unescapedFrame s.params.crc payload) s).events = s.events := by
    rw [storedAll_frame]
    exact ⟨rfl, hbad, rfl⟩
  obtain ⟨hparams, hbad', hevents⟩ := hkept
  rw [endFrame_good (by rw [hframe, hparams, hbad']; exact frameVerdict_unescapedFrame _ _), hframe]
  simp only [delivered, hcount, hevents]

variable (hready : Ready s) (hzero : s.receivedCount = 0) (hfits : payload.length + 2 ≤ s.params.cap)
include hready hzero hfits

theorem byteSteps_frame :
    byteSteps (escapeList (unescapedFrame s.params.crc payload)) s =
      .next (storedAll (unescapedFrame s.params.crc payload) s) :=
  byteSteps_escapeList hready (by rw [hzero, Nat.zero_add, Encoder.unescapedFrame_length]; exact hfits)

variable (hbad : s.badEscape = false)
include hbad

theorem byteStep_end_storedAll (c : Status) :
    byteStep 0xC0#8 { storedAll (unescapedFrame s.params.crc payload) s with currentStatus := c } =
      .next (delivered payload s) := by
  obtain ⟨hlive, hd, -⟩ := ready_storedAll hready (unescapedFrame s.params.crc payload)
  rw [← endFrame_storedAll hzero hbad c]
  refine byteStep_end_of_le hlive hd ?_
  rw [storedAll_frame]
  simpa [hzero, Encoder.unescapedFrame_length] using hfits

theorem byteSteps_wire : byteSteps (wire s.params.crc payload) s = .next (delivered payload s) := by
  rw [Encoder.wire_eq, byteSteps_append, byteSteps_frame hready hzero hfits, andThen_next, byteSteps_singleton]
  exact byteStep_end_storedAll hready hzero hfits hbad _

/-- The round trip in any chunking: the last chunk holds the END, or it is empty and the END stands before it. -/
theorem decodeChunks_wire {chunks : List (List Byte)} (hchunks : chunks.flatten = wire s.params.crc payload) :
    decodeChunks chunks s = .next { delivered payload s with
      currentStatus := if chunks.getLast? = some [] then .decoding else .success } := by
  rcases List.eq_nil_or_concat chunks with rfl | ⟨before, last, rfl⟩
  · simp [Encoder.wire_eq] at hchunks
  rw [List.concat_eq_append] at hchunks ⊢
  rw [List.flatten_append, List.flatten_singleton] at hchunks
  rcases List.eq_nil_or_concat last with rfl | ⟨bytes, b, rfl⟩
  · rw [List.append_nil] at hchunks
    obtain ⟨c, hbefore⟩ := decodeChunks_of_byteSteps (hchunks ▸ byteSteps_wire hready hzero hfits hbad)
    rw [decodeChunks_concat, hbefore, List.getLast?_concat, if_pos rfl]
    rfl
  · rw [List.concat_eq_append] at hchunks ⊢
    rw [Encoder.wire_eq, ← List.append_assoc] at hchunks
    obtain ⟨hframe, hEnd⟩ := List.append_inj' hchunks rfl
    cases hEnd
    have hbytes : (before ++ [bytes]).flatten = escapeList (unescapedFrame s.params.crc payload) := by
      rw [List.flatten_append, List.flatten_singleton, hframe]
    obtain ⟨c, hbefore⟩ := decodeChunks_of_byteSteps (hbytes ▸ byteSteps_frame hready hzero hfits)
    rw [decodeChunks_concat_byte, hbefore, andThen_next, byteStep_end_storedAll hready hzero hfits hbad,
      List.getLast?_concat, if_neg (by simp)]
    rfl

end

/-- Settles O32: in any chunking the result is `delivered`, but for `currentStatus` after an empty last chunk. -/
theorem roundTripDeliversThePayload : Obligations.RoundTripDeliversThePayload := by
  intro s payload chunks hinv hidle hp hfits hchunks
  obtain ⟨hready, hzero, hbad⟩ := ready_of_idle hinv hidle hp
  refine ⟨_, decodeChunks_wire hready hzero hfits hbad hchunks, rfl, rfl, rfl, rfl, ?_⟩
  obtain ⟨hlive, hinit, -⟩ := (Control.idle_iff s).1 hidle
  rw [Control.idle_iff, delivered, storedAll_frame]
  exact ⟨hlive, hinit, rfl⟩

/-! A frame that does not fit. -/

/-- The state after a byte that found no room (41_decoder R92, R94). -/
def aborted (s : State) : State :=
  { s with
    isReceiving := true
    timeoutCount := if s.isReceiving then s.timeoutCount else 0
    discarding := true
    receivedCount := 0
    pendingEscape := false
    badEscape := false
    currentStatus := .bufferOverrun
    lastStatus := .bufferOverrun }

theorem dataStep_eq_aborted {s : State} (hfull : s.params.cap ≤ s.receivedCount) (b : Byte) : dataStep b s = aborted s :=
  Decoder.dataStep_of_full hfull b

/-- With no room the escape sequence of any byte aborts the frame, an ESC in it only setting the flag that the abort clears
(41_decoder R94). -/
theorem byteSteps_escapeByte_full {s : State} (h : Ready s) (hfull : s.params.cap ≤ s.receivedCount) (v : Byte) :
    byteSteps (escapeByte v) s = .next (aborted s) := by
  obtain ⟨hlive, hd, -⟩ := h
  have escaped (d : Byte) (hEnd : d ≠ 0xC0#8) (hEsc : d ≠ 0xDB#8) : byteSteps [0xDB#8, d] s = .next (aborted s) := by
    rw [byteSteps, Decoder.byteStep_esc hlive hd, andThen_next, byteSteps_singleton,
      Decoder.byteStep_data (s := s.escStep) hlive hd hEnd hEsc, dataStep_eq_aborted (s := s.escStep) hfull]
    rfl
  rcases escapeByte_cases v with ⟨rfl, hv⟩ | ⟨rfl, hv⟩ | ⟨hEnd, hEsc, hv⟩ <;> rw [hv]
  · exact escaped _ (by decide) (by decide)
  · exact escaped _ (by decide) (by decide)
  · rw [byteSteps_singleton, Decoder.byteStep_data hlive hd hEnd hEsc, dataStep_eq_aborted hfull]

/-- In discard mode every byte but END is dropped (41_decoder R97). -/
theorem byteSteps_of_discarding {s : State} {bytes : List Byte} (hd : s.discarding = true) (hEnd : 0xC0#8 ∉ bytes) :
    byteSteps bytes s = .next s := by
  induction bytes with
  | nil => rfl
  | cons b bytes ih =>
    rw [List.mem_cons, not_or] at hEnd
    rw [byteSteps, Decoder.byteStep_of_discarding hd (Ne.symm hEnd.1), andThen_next, ih hEnd.2]

/-- A list too long for the buffer is stored as far as it fits; its next byte aborts the frame, and its rest is dropped. -/
theorem byteSteps_escapeList_overrun {s : State} {xs : List Byte} (h : Ready s) (hcap : s.receivedCount ≤ s.params.cap)
    (hlong : s.params.cap < s.receivedCount + xs.length) :
    byteSteps (escapeList xs) s = .next (aborted (storedAll (xs.take (s.params.cap - s.receivedCount)) s)) := by
  induction xs generalizing s with
  | nil => exact absurd hlong (Nat.not_lt.2 hcap)
  | cons v xs ih =>
    rw [List.length_cons] at hlong
    rw [escapeList_cons, byteSteps_append]
    rcases Nat.lt_or_eq_of_le hcap with hroom | hfull
    · rw [byteSteps_escapeByte h hroom, andThen_next,
        ih (s := stored v s) ⟨h.live, h.notDiscarding, h.notPending⟩ hroom (by simp only [stored]; omega),
        show s.params.cap - s.receivedCount = s.params.cap - (s.receivedCount + 1) + 1 by omega]
      rfl
    · rw [byteSteps_escapeByte_full h hfull.ge, andThen_next,
        byteSteps_of_discarding rfl (EscapeCodec.end_notMem_escapeList xs), hfull, Nat.sub_self]
      rfl

/-- The wire frame that does not fit is aborted, and its END ends discard mode with no check (41_decoder R85, R94, R97). -/
theorem byteSteps_wire_overrun {s : State} {payload : List Byte} (f : CrcFunction) (h : Ready s)
    (hcap : s.receivedCount ≤ s.params.cap) (hlong : s.params.cap < s.receivedCount + (payload.length + 2)) :
    ∃ xs, byteSteps (wire f payload) s = .next (aborted (storedAll xs s)).endDiscard := by
  rw [← Encoder.unescapedFrame_length f] at hlong
  obtain ⟨hlive, -, -⟩ := ready_storedAll h ((unescapedFrame f payload).take (s.params.cap - s.receivedCount))
  rw [Encoder.wire_eq, byteSteps_append, byteSteps_escapeList_overrun h hcap hlong, andThen_next, byteSteps_singleton]
  exact ⟨_, byteStep_end_of_discarding hlive rfl⟩

/-- Settles O33: of the state before, the bytes stored and the abort leave the events and `lastFrameLength`. -/
theorem oversizedFrameIsDiscarded : Obligations.OversizedFrameIsDiscarded := by
  intro s payload hinv hidle hp hlong
  obtain ⟨⟨hlive, hd, -⟩, -, -⟩ := ready_of_idle hinv hidle hp
  obtain ⟨-, hinit, -⟩ := (Control.idle_iff s).1 hidle
  obtain ⟨xs, hrun⟩ := byteSteps_wire_overrun (s := { s with currentStatus := .decoding }) s.params.crc ⟨hlive, hd, hp⟩
    hinv.countWithinCap (Nat.lt_of_lt_of_le hlong (Nat.le_add_left _ _))
  refine ⟨_, hrun, ?_⟩
  rw [storedAll_frame]
  exact ⟨rfl, rfl, rfl, rfl, (Control.idle_iff _).2 ⟨hlive, hinit, rfl⟩⟩

end Sys2Proof.RoundTrip

/-! The byte steps do the same in any other surroundings, which they neither read nor write, but for an END that checks a byte of
`Buf` that nothing has written (70_reset R138). -/

namespace Sys2Proof.Surroundings

open Sys2Proof.Machine Sys2Proof.Outcomes

/-- What stands around the fields that a byte step works on: the chunk and its index, the encoder's output, the results, and
what the free values depend on. -/
structure Context where
  rx : List Byte
  bytePos : Nat
  sink : List (List Byte)
  results : List Result
  draws : Nat
  number : Nat

/-- The surroundings that `s` has. -/
def contextOf (s : State) : Context := ⟨s.rx, s.bytePos, s.sink, s.results, s.draws, s.number⟩

/-- `s` in other surroundings. -/
def around (c : Context) (s : State) : State :=
  { s with
    rx := c.rx, bytePos := c.bytePos, sink := c.sink, results := c.results, draws := c.draws, number := c.number }

theorem ifLive_ifNotDiscarding_around (c : Context) (s t : State) :
    ifLive (around c s) (ifNotDiscarding (around c s) (around c t)) =
      andThen (ifLive s (ifNotDiscarding s t)) (fun u => .next (around c u)) := by
  cases hfault : s.faulted <;> cases hd : s.discarding <;> simp [ifLive, ifNotDiscarding, around, hfault, hd]

theorem dataStep_around (c : Context) (b : Byte) (s : State) : dataStep b (around c s) = around c (dataStep b s) := by
  rcases lt_or_ge s.receivedCount s.params.cap with hroom | hfull
  · rw [Decoder.dataStep_of_room hroom, Decoder.dataStep_of_room (s := around c s) hroom]
    rfl
  · rw [Decoder.dataStep_of_full hfull, Decoder.dataStep_of_full (s := around c s) hfull]
    rfl

theorem endStep_around {c : Context} {s : State} (hframe : frameInProgress (around c s) = frameInProgress s) :
    endStep (around c s) = andThen (endStep s) (fun t => .next (around c t)) := by
  cases hd : s.discarding with
  | true =>
    rw [Decoder.endStep_of_discarding hd, Decoder.endStep_of_discarding (s := around c s) hd]
    rfl
  | false =>
    rcases le_or_gt s.receivedCount s.params.cap with hcap | hcap
    · rw [endStep_eq_endFrame hd hcap, endStep_eq_endFrame (s := around c s) hd hcap, endFrame, hframe]
      rfl
    · rw [endStep_of_gt hd hcap, endStep_of_gt (s := around c s) hd hcap]
      rfl

theorem exec_rxEnd_around {c : Context} {s : State} (hframe : frameInProgress (around c s) = frameInProgress s) :
    exec .rxEnd (around c s) = andThen (exec .rxEnd s) (fun t => .next (around c t)) := by
  cases hfault : s.faulted with
  | true =>
    rw [show exec .rxEnd s = .next s from ifLive_of_faulted hfault _]
    exact ifLive_of_faulted (s := around c s) hfault _
  | false =>
    rw [Decoder.exec_rxEnd hfault, ← endStep_around hframe]
    exact Decoder.exec_rxEnd (s := around c s) hfault

theorem exec_rxEsc_around (c : Context) (s : State) :
    exec .rxEsc (around c s) = andThen (exec .rxEsc s) (fun t => .next (around c t)) :=
  ifLive_ifNotDiscarding_around c s s.escStep

theorem exec_data_around (c : Context) {i : Instr} {b : Byte} (hi : dataByteOf i = some b) (s : State) :
    exec i (around c s) = andThen (exec i s) (fun t => .next (around c t)) := by
  rw [exec_data hi, exec_data hi, dataStep_around]
  exact ifLive_ifNotDiscarding_around c s (dataStep b s)

/-- The three kinds of byte step (30_encoding R64). -/
def IsByteStep (i : Instr) : Prop := i = .rxEnd ∨ i = .rxEsc ∨ ∃ b, dataByteOf i = some b

theorem exec_byteStep_around {c : Context} {i : Instr} {s : State} (hi : IsByteStep i)
    (hframe : frameInProgress (around c s) = frameInProgress s) :
    exec i (around c s) = andThen (exec i s) (fun t => .next (around c t)) := by
  rcases hi with rfl | rfl | ⟨b, hdata⟩
  · exact exec_rxEnd_around hframe
  · exact exec_rxEsc_around c s
  · exact exec_data_around c hdata s

/-- A byte step leaves its surroundings as they were. -/
theorem contextOf_exec_byteStep {i : Instr} {s t : State} (hi : IsByteStep i) (h : exec i s = .next t) :
    contextOf t = contextOf s := by
  rcases hi with rfl | rfl | ⟨b, hdata⟩
  · rw [Frames.exec_rxEnd_frame h]; rfl
  · rw [Frames.exec_rxEsc_frame h]; rfl
  · rw [Frames.exec_data_frame hdata h]; rfl

end Sys2Proof.Surroundings

/-! DECODE as the machine runs it (41_decoder R82): the entry, then one step for each byte. -/

namespace Sys2Proof.DecodeRun

open Sys2Proof.Machine Sys2Proof.Outcomes Sys2Proof.Surroundings

/-! The entry. -/

/-- A live initialized instance passes both checks of DECODE (41_decoder R82). -/
theorem exec_decode_of_init {s : State} (hlive : s.faulted = false) (hinit : s.initialized = true) (chunk : List Byte) :
    exec (.decode chunk) s = .next ({ s with currentStatus := .decoding }.openChunk chunk) :=
  (ifLive_of_live hlive _).trans (ifInitialized_of_init hinit _ _)

/-- Settles O22: the chunk is opened at index 0. -/
theorem decodeEntersItsChunk : Obligations.DecodeEntersItsChunk := fun _ chunk hlive hinit =>
  exec_decode_of_init hlive hinit chunk

/-- The word of DECODE, with any byte list (30_encoding R69). -/
theorem decodeCommand_decode (p : Params) (chunk : List Byte) :
    decodeCommand p 0x00000001#32 chunk = .ok (.decode chunk) := rfl

/-! The bytes. -/

/-- The surroundings at a place of a chunk: these bytes to come, at this index. Where none is to come the command has returned
(log entry 19). -/
def placed (rx : List Byte) (bytePos : Nat) (results : List Result) (c : Context) : Context :=
  { c with
    rx := rx
    bytePos := bytePos
    results := if rx = [] then results ++ [.decodeDone] else results }

/-- `s` at a place of a chunk. -/
def atByte (rx : List Byte) (bytePos : Nat) (results : List Result) (s : State) : State :=
  around (placed rx bytePos results (contextOf s)) s

/-- The machine's step at a byte of a chunk is the byte step of it, and leads to the next place. -/
theorem step_atByte (b : Byte) (rest : List Byte) (bytePos : Nat) (results : List Result) (s : State) :
    step (atByte (b :: rest) bytePos results s) =
      andThen (byteStep b s) (fun t => .next (atByte rest (bytePos + 1) results t)) := by
  have hrow : IsByteStep (decodeByte s.pendingEscape b) := decodeByte_kinds s.pendingEscape b
  have htaken : (atByte (b :: rest) bytePos results s).takeByte =
      around (placed rest (bytePos + 1) results (contextOf s)) s := by
    simp [atByte, around, placed, State.takeByte]
  have hstep : step (atByte (b :: rest) bytePos results s) =
      andThen (byteStep b s) (fun t => .next (around (placed rest (bytePos + 1) results (contextOf s)) t)) := by
    rw [Steps.step_byte (s := atByte (b :: rest) bytePos results s) rfl, htaken]
    exact exec_byteStep_around hrow rfl
  rw [hstep]
  cases h : byteStep b s with
  | next t => rw [andThen_next, andThen_next, atByte, contextOf_exec_byteStep hrow h]
  | fault | refused => rfl

/-- The machine's steps over a chunk are its byte steps, left to right. -/
theorem steps_atByte (bytes : List Byte) (bytePos : Nat) (results : List Result) (s : State) :
    steps bytes.length (atByte bytes bytePos results s) =
      andThen (byteSteps bytes s) (fun t => .next (atByte [] (bytePos + bytes.length) results t)) := by
  induction bytes generalizing bytePos s with
  | nil => rfl
  | cons b rest ih =>
    rw [List.length_cons, steps, step_atByte, byteSteps, andThen_assoc, andThen_assoc]
    refine congrArg (andThen _) (funext fun t => ?_)
    rw [andThen_next, ih, Nat.add_assoc, Nat.add_comm 1]

/-- Settles O23: the entry leads to the first place of the chunk, and the bytes to the place behind its last. -/
theorem decodeRunsItsChunk : Obligations.DecodeRunsItsChunk := by
  intro s chunk more hlive hrx hin
  have hstep : step s = exec (.decode chunk) { s with inbox := more } := by
    rw [Steps.step_command hrx hin (decodeCommand_decode _ chunk), Steps.takeInput_of_cons hin]
  refine ⟨fun hinit => ?run, fun hinit => ?usageError⟩
  case run =>
    have hentry : step s = .next (atByte chunk 0 s.results { s with inbox := more, currentStatus := .decoding }) :=
      hstep.trans (exec_decode_of_init (s := { s with inbox := more }) hlive hinit chunk)
    rw [Nat.add_comm, steps, hentry, andThen_next, steps_atByte, Nat.zero_add]
    rfl
  case usageError =>
    rw [hstep]
    exact Exceptions.exec_decode_of_uninit (s := { s with inbox := more }) hlive hinit chunk

end Sys2Proof.DecodeRun

/-! Isolation: what stands in the encoder's traces (10_state R16), and what the free values are (70_reset R138), is seen by no
instruction that does not answer with it. -/

namespace Sys2Proof.Isolation

open Sys2Proof.Machine Sys2Proof.Outcomes Sys2Proof.Surroundings

/-! The encoder's traces. -/

/-- `s` with other contents of the encoder's output and of the results. -/
def withTraces (sink : List (List Byte)) (results : List Result) (s : State) : State :=
  { s with sink := sink, results := results }

/-- `t`, reached from `s`, as it is reached from `withTraces sink results s`: what was appended stands behind the other
contents. -/
def carried (sink : List (List Byte)) (results : List Result) (s t : State) : State :=
  { t with
    sink := sink ++ t.sink.drop s.sink.length
    results := results ++ t.results.drop s.results.length }

section
variable {sink : List (List Byte)} {results : List Result} {s t : State}

/-- Nothing was appended. -/
theorem next_carried_of_same {o : Host.Outcome State Fault Refusal} (h : o = .next (withTraces sink results t))
    (hsink : t.sink = s.sink) (hresults : t.results = s.results) : o = .next (carried sink results s t) := by
  simp [h, carried, withTraces, hsink, hresults]

/-- One result was appended. -/
theorem next_carried_of_result {o : Host.Outcome State Fault Refusal} {r : Result}
    (h : o = .next (withTraces sink (results ++ [r]) t)) (hsink : t.sink = s.sink)
    (hresults : t.results = s.results ++ [r]) : o = .next (carried sink results s t) := by
  simp [h, carried, withTraces, hsink, hresults]

/-- A faulted instance takes no step of the decoder, whatever its traces hold. -/
theorem exec_withTraces_of_faulted {i : Instr} (hi : isDecoderStep i = true) (hfault : s.faulted = true) :
    exec i (withTraces sink results s) = .next (carried sink results s s) :=
  next_carried_of_same (Exceptions.exec_decoderStep_of_faulted (s := withTraces sink results s) hfault hi) rfl rfl

theorem exec_init_withTraces {limit : BitVec 29} (h : exec (.init limit) s = .next t) :
    exec (.init limit) (withTraces sink results s) = .next (carried sink results s t) := by
  rcases exec_init_next h with ⟨hfault, rfl⟩ | ⟨hlive, rfl⟩
  · exact exec_withTraces_of_faulted rfl hfault
  · exact next_carried_of_result (ifLive_of_live (s := withTraces sink results s) hlive _) rfl rfl

theorem exec_decode_withTraces {chunk : List Byte} (h : exec (.decode chunk) s = .next t) :
    exec (.decode chunk) (withTraces sink results s) = .next (carried sink results s t) := by
  rcases exec_decode_next h with ⟨hfault, rfl⟩ | ⟨hlive, hinit, rfl⟩ | ⟨hlive, hinit, rfl⟩
  · exact exec_withTraces_of_faulted rfl hfault
  · exact next_carried_of_same (Exceptions.exec_decode_of_uninit (s := withTraces sink results s) hlive hinit chunk) rfl rfl
  · rw [DecodeRun.exec_decode_of_init (s := withTraces sink results s) hlive hinit chunk]
    by_cases hchunk : chunk = []
    · exact next_carried_of_result (by simp [State.openChunk, withTraces, hchunk]) rfl (if_pos hchunk)
    · exact next_carried_of_same (by simp [State.openChunk, withTraces, hchunk]) rfl (if_neg hchunk)

theorem exec_tick_withTraces (h : exec .tick s = .next t) :
    exec .tick (withTraces sink results s) = .next (carried sink results s t) := by
  rcases exec_tick_next h with ⟨hfault, rfl⟩ | ⟨hlive, hinit, rfl⟩ | ⟨hlive, hinit, rfl⟩
  · exact exec_withTraces_of_faulted rfl hfault
  · exact next_carried_of_same (Timeout.exec_tick_of_uninit (s := withTraces sink results s) hlive hinit) rfl rfl
  · rw [Timeout.exec_tick_of_init (s := withTraces sink results s) hlive hinit]
    rcases tickStep_cases s with ⟨hcounts, hstep⟩ | ⟨hcounts, hlimit, hstep⟩ | ⟨hcounts, hbelow, hstep⟩ <;> rw [hstep]
    · rw [Timeout.tickStep_of_ignored (s := withTraces sink results s) hcounts]
      exact next_carried_of_result rfl rfl rfl
    · rw [Timeout.tickStep_of_limit (s := withTraces sink results s) hcounts hlimit]
      exact next_carried_of_result rfl rfl rfl
    · rw [Timeout.tickStep_of_below (s := withTraces sink results s) hcounts hbelow]
      exact next_carried_of_result rfl rfl rfl

theorem registerValue_withTraces (r : Register) : registerValue (withTraces sink results s) r = registerValue s r := by
  cases r <;> rfl

theorem afterRegisterRead_withTraces (r : Register) :
    afterRegisterRead (withTraces sink results s) r = withTraces sink results (afterRegisterRead s r) := by
  cases r with
  | buf i =>
    cases hread : Memory.read s.buf i <;> simp [afterRegisterRead, State.afterBufRead, withTraces, hread]
  | status | rxCount | lastLen | tCount | tLimit => rfl

theorem exec_read_withTraces {n : BitVec 29} (h : exec (.read n) s = .next t) :
    exec (.read n) (withTraces sink results s) = .next (carried sink results s t) := by
  rcases exec_read_next h with ⟨hfault, rfl⟩ | ⟨hlive, hr, rfl⟩ | ⟨hlive, r, hr, rfl⟩
  · exact exec_withTraces_of_faulted rfl hfault
  · exact next_carried_of_same (RegisterRead.exec_read_of_none (s := withTraces sink results s) hlive hr) rfl rfl
  · rw [RegisterRead.exec_read_of_register (s := withTraces sink results s) hlive hr, registerValue_withTraces,
      afterRegisterRead_withTraces]
    exact next_carried_of_result rfl (by simp) (by simp)

theorem exec_byteStep_withTraces {i : Instr} (hi : IsByteStep i) (h : exec i s = .next t) :
    exec i (withTraces sink results s) = .next (carried sink results s t) := by
  have hcontext := contextOf_exec_byteStep hi h
  refine next_carried_of_same ?_ (congrArg Context.sink hcontext) (congrArg Context.results hcontext)
  calc exec i (withTraces sink results s)
      = andThen (exec i s) (fun u => .next (around { contextOf s with sink := sink, results := results } u)) :=
        exec_byteStep_around (c := { contextOf s with sink := sink, results := results }) hi rfl
    _ = .next (around { contextOf t with sink := sink, results := results } t) := by rw [h, hcontext, andThen_next]

/-- An instruction that is no step of the decoder appends to the two traces what it appends to any. -/
theorem exec_other_withTraces {i : Instr} (hi : isDecoderStep i = false) (h : exec i s = .next t) :
    exec i (withTraces sink results s) = .next (carried sink results s t) := by
  cases i with
  | encode payload =>
    obtain ⟨hfits, rfl⟩ := Exceptions.exec_encode_next h
    rw [Encoder.exec_encode_of_fits (s := withTraces sink results s) hfits]
    simp [carried, withTraces, State.sendGroups, State.giveResult]
  | escape | escInEnd | escInEsc | escInPass =>
    cases h
    exact next_carried_of_result rfl rfl rfl
  | reserved6 | reserved7 => cases h
  | init | decode | tick | read | rxEnd | rxEsc | rxData | rxDataEscEnd | rxDataEscEsc | rxDataEscBad => cases hi

theorem exec_withTraces {i : Instr} (h : exec i s = .next t) :
    exec i (withTraces sink results s) = .next (carried sink results s t) := by
  rcases instr_kinds i with ⟨_, rfl⟩ | ⟨_, rfl⟩ | rfl | ⟨_, rfl⟩ | rfl | rfl | hdata | hother
  · exact exec_init_withTraces h
  · exact exec_decode_withTraces h
  · exact exec_tick_withTraces h
  · exact exec_read_withTraces h
  · exact exec_byteStep_withTraces (.inl rfl) h
  · exact exec_byteStep_withTraces (.inr (.inl rfl)) h
  · exact exec_byteStep_withTraces (.inr (.inr hdata)) h
  · exact exec_other_withTraces hother h

end

/-- Settles O55: an ENCODE does nothing but change the contents of the two traces. -/
theorem theEncodersTracesAreNeverRead : Obligations.TheEncodersTracesAreNeverRead := by
  refine ⟨fun payload i s u t hencode h => ?_, fun i s t sink results h => exec_withTraces h⟩
  rw [Exceptions.exec_frame_of_not_decoderStep rfl hencode]
  exact exec_withTraces h

/-! The free values. -/

/-- `s` at another draw and with another number: what the free values depend on. -/
def withDraws (draws number : Nat) (s : State) : State := { s with draws := draws, number := number }

/-- Under the invariant the frame in progress has been written, so that its bytes are no free values (70_reset R138). -/
theorem frameInProgress_withDraws {s : State} (hinv : Inv s) (draws number : Nat) :
    frameInProgress (withDraws draws number s) = frameInProgress s := by
  refine List.map_congr_left fun i hi => ?_
  obtain ⟨v, hread⟩ := Option.isSome_iff_exists.1 (hinv.frameWritten i (List.mem_range.1 hi))
  rw [State.bufByte_of_read hread]
  exact State.bufByte_of_read (s := withDraws draws number s) hread

section
variable {draws number : Nat} {s t : State}

theorem exec_init_withDraws {limit : BitVec 29} (h : exec (.init limit) s = .next t) :
    exec (.init limit) (withDraws draws number s) = .next (withDraws draws number t) := by
  rcases exec_init_next h with ⟨hfault, rfl⟩ | ⟨hlive, rfl⟩
  · exact ifLive_of_faulted (s := withDraws draws number t) hfault _
  · exact ifLive_of_live (s := withDraws draws number s) hlive _

theorem exec_decode_withDraws {chunk : List Byte} (h : exec (.decode chunk) s = .next t) :
    exec (.decode chunk) (withDraws draws number s) = .next (withDraws draws number t) := by
  rcases exec_decode_next h with ⟨hfault, rfl⟩ | ⟨hlive, hinit, rfl⟩ | ⟨hlive, hinit, rfl⟩
  · exact ifLive_of_faulted (s := withDraws draws number t) hfault _
  · exact Exceptions.exec_decode_of_uninit (s := withDraws draws number s) hlive hinit chunk
  · exact DecodeRun.exec_decode_of_init (s := withDraws draws number s) hlive hinit chunk

theorem exec_tick_withDraws (h : exec .tick s = .next t) :
    exec .tick (withDraws draws number s) = .next (withDraws draws number t) := by
  rcases exec_tick_next h with ⟨hfault, rfl⟩ | ⟨hlive, hinit, rfl⟩ | ⟨hlive, hinit, rfl⟩
  · exact ifLive_of_faulted (s := withDraws draws number t) hfault _
  · exact Timeout.exec_tick_of_uninit (s := withDraws draws number s) hlive hinit
  · rw [Timeout.exec_tick_of_init (s := withDraws draws number s) hlive hinit]
    rcases tickStep_cases s with ⟨hcounts, hstep⟩ | ⟨hcounts, hlimit, hstep⟩ | ⟨hcounts, hbelow, hstep⟩ <;> rw [hstep]
    · exact congrArg _ (Timeout.tickStep_of_ignored (s := withDraws draws number s) hcounts)
    · exact congrArg _ (Timeout.tickStep_of_limit (s := withDraws draws number s) hcounts hlimit)
    · exact congrArg _ (Timeout.tickStep_of_below (s := withDraws draws number s) hcounts hbelow)

/-- Of the byte steps only an END reads `Buf`, and what it reads has been written. -/
theorem exec_byteStep_withDraws {i : Instr} (hinv : Inv s) (hi : IsByteStep i) (h : exec i s = .next t) :
    exec i (withDraws draws number s) = .next (withDraws draws number t) := by
  calc exec i (withDraws draws number s)
      = andThen (exec i s) (fun u => .next (around { contextOf s with draws := draws, number := number } u)) :=
        exec_byteStep_around (c := { contextOf s with draws := draws, number := number }) hi
          (frameInProgress_withDraws hinv draws number)
    _ = .next (around { contextOf t with draws := draws, number := number } t) := by
      rw [h, contextOf_exec_byteStep hi h, andThen_next]

theorem exec_other_withDraws {i : Instr} (hi : isDecoderStep i = false) (h : exec i s = .next t) :
    exec i (withDraws draws number s) = .next (withDraws draws number t) := by
  cases i with
  | encode payload =>
    obtain ⟨hfits, rfl⟩ := Exceptions.exec_encode_next h
    exact Encoder.exec_encode_of_fits (s := withDraws draws number s) hfits
  | escape | escInEnd | escInEsc | escInPass => cases h; rfl
  | reserved6 | reserved7 => cases h
  | init | decode | tick | read | rxEnd | rxEsc | rxData | rxDataEscEnd | rxDataEscEsc | rxDataEscBad => cases hi

end

/-- Settles O56: of the instructions but READ, only END looks at bytes of `Buf`, and those have been written. -/
theorem freeValuesReachOnlyRead : Obligations.FreeValuesReachOnlyRead := by
  intro i s t draws number hinv hi h
  rcases instr_kinds i with ⟨_, rfl⟩ | ⟨_, rfl⟩ | rfl | ⟨n, rfl⟩ | rfl | rfl | hdata | hother
  · exact exec_init_withDraws h
  · exact exec_decode_withDraws h
  · exact exec_tick_withDraws h
  · exact absurd rfl (hi n)
  · exact exec_byteStep_withDraws hinv (.inl rfl) h
  · exact exec_byteStep_withDraws hinv (.inr (.inl rfl)) h
  · exact exec_byteStep_withDraws hinv (.inr (.inr hdata)) h
  · exact exec_other_withDraws hother h

end Sys2Proof.Isolation
